-- ==== Sys2Proof/Word.lean ====
section
/-! DEFINITION. The word types of the 3410: bytes, memory lines, byte enables, line numbers, and the
modular counters (spec/00_scope.md 5.1, 5.2). Types only: every helper that reads bytes or compares
counters stands in Machine/Operands.lean. -/

namespace Sys2Proof

/-- One byte. -/
abbrev Byte := BitVec 8

/-- The 32 bytes of one memory line; byte `i` is bits `8*i + 7 … 8*i` (little-endian, 11_memory_formats.md). -/
abbrev Line := BitVec 256

/-- The byte enables of one request: bit `i` enables byte `i` of the line (00_scope.md section 4, R1). -/
abbrev Enables := BitVec 32

/-- The number of a memory line: its byte address divided by 32. A 32-bit byte address
(DEDUCED, log 7) makes 27 bits. -/
abbrev LineNo := BitVec 27

/-- A 32-bit sheet sequence number (5.2). -/
abbrev Seq := BitVec 32

/-- The 24-bit path count (5.2, R68). -/
abbrev PathCount := BitVec 24

/-- A 16-bit pitch number (5.2, R69). -/
abbrev PitchNo := BitVec 16

end Sys2Proof
end

