-- ==== Sys2Proof/Syntax.lean ====
section
/-! DEFINITION. The commands of the 3410: one constructor of `Instr` for each row of spec/opcode_table.json,
in the table's order, with the operands each step needs. -/

namespace Sys2Proof

/-- The four bus masters (00_scope.md section 2). -/
inductive Master where
  | controlProcessor | channelAdapter | formatter | fetcher
deriving DecidableEq, Repr

/-- The six sheet sensors, in the order of R101 and of the station codes (00_scope.md section 4). -/
inductive Sensor where
  | feed | reg | xfer | fuse | loop | exit
deriving DecidableEq, Repr

/-- The two good stacks. -/
inductive Stack where
  | a | b
deriving DecidableEq, Repr

/-- A feed tray, 0 to 3. -/
abbrev Tray := Fin 4

/-- A bus write (R1): master, memory line, byte enables and the line's bytes. It lies within one line by
construction (DEDUCED, log 8). -/
structure WriteReq where
  master  : Master
  line    : LineNo
  enables : Enables
  data    : Line
deriving DecidableEq, Repr

/-- A bus read (R1). -/
structure ReadReq where
  master  : Master
  line    : LineNo
  enables : Enables
deriving DecidableEq, Repr

/-- The levels of the six sensor lines at one tick; true is high, paper present (R72). -/
structure SensorLevels where
  feed : Bool
  reg  : Bool
  xfer : Bool
  fuse : Bool
  loop : Bool
  exit : Bool
deriving DecidableEq, Repr

/-- The commands. The control requests carry the writing master and the bytes 1 to 3 of the control word
(argument, the byte whose bit 0 is the toggle, the unexamined byte); byte 0, the request code, is the row. -/
inductive Instr where
  /-- POWER_ON_RESET (R22): POWER_GOOD rises and finds RESET_N at the given level. -/
  | powerOnReset (resetN : Bool)
  /-- POWER_LOSS (R22): POWER_GOOD falls. -/
  | powerLoss
  /-- LINE_RESET (R23): RESET_N falls while POWER_GOOD is high. -/
  | lineReset
  /-- RESET_PERIOD_END (R24): RESET_N rises while POWER_GOOD is high. -/
  | resetPeriodEnd
  /-- BUS_WRITE (R4): a master presents a write. -/
  | busWrite (w : WriteReq)
  /-- BUS_READ (R4): a master presents a read. -/
  | busRead (r : ReadReq)
  /-- WAITING_WRITE_TAKEN (R8): the waiting write of this master is taken. -/
  | waitingWriteTaken (m : Master)
  /-- MEMORY_ISSUE (R11). -/
  | memoryIssue
  /-- READ_RESPONSE (R13): the memory controller returns the data of the read in flight; page
  memory is outside the part (DEDUCED, log 25). -/
  | readResponse (data : Line)
  /-- READ_ERROR (R13): the memory controller answers the read in flight with an error. -/
  | readError
  /-- WRITE_RESPONSE (R11): the memory controller completes the write in flight. -/
  | writeResponse
  /-- MEMORY_FAULT (R14): the memory controller answers the write in flight with an error. -/
  | memoryFault
  /-- SETUP_WRITE (R16): a write to line `block` (0 to 7) of the setup area. -/
  | setupWrite (m : Master) (block : Fin 8) (enables : Enables) (data : Line)
  /-- ARM (R17, R18): a write of the full arm code to the arm word; `enables` and `data` give the other bytes
  of the line that the same write may carry. -/
  | arm (m : Master) (enables : Enables) (data : Line)
  /-- RUN (R90). -/
  | run (m : Master) (argument toggleByte unused : Byte)
  /-- DRAIN (R97). -/
  | drain (m : Master) (argument toggleByte unused : Byte)
  /-- HALT (R95). -/
  | halt (m : Master) (argument toggleByte unused : Byte)
  /-- RESUME (R101). -/
  | resume (m : Master) (argument toggleByte unused : Byte)
  /-- STANDBY (R99). -/
  | standby (m : Master) (argument toggleByte unused : Byte)
  /-- CANCEL_PENDING (R63). -/
  | cancelPending (m : Master) (argument toggleByte unused : Byte)
  /-- PATH_RESET (R102). -/
  | pathReset (m : Master) (argument toggleByte unused : Byte)
  /-- CLEAR_TRAY_STALL (R120): the argument is the tray. -/
  | clearTrayStall (m : Master) (argument toggleByte unused : Byte)
  /-- RELEASE_FRAME (R39): the argument is the frame number. -/
  | releaseFrame (m : Master) (argument toggleByte unused : Byte)
  /-- CLEAR_STANDING (R169): the argument is the condition set. -/
  | clearStanding (m : Master) (argument toggleByte unused : Byte)
  /-- UNKNOWN_REQUEST (R176): a control word whose request code is 0 or 11 to 255. -/
  | unknownRequest (m : Master) (code argument toggleByte unused : Byte)
  /-- EVENTS_TAKEN (R170): a full write of the events-taken word; `n` is its byte 0, `rest` its bytes 1 to 3. -/
  | eventsTaken (m : Master) (n : Byte) (rest : BitVec 24)
  /-- CLEAR_STANDING_WORD (R169): a full write of the clear-standing word; `set` is its byte 0. -/
  | clearStandingWord (m : Master) (set : Byte) (rest : BitVec 24)
  /-- MIRROR_WRITE_IGNORED (R166): a mirror write, at line `block` of the mirror's 128, that covers no request
  word in full. -/
  | mirrorWriteIgnored (m : Master) (block : Fin 128) (enables : Enables) (data : Line)
  /-- ENC_PULSE (R68). -/
  | encPulse
  /-- PITCH_TICK (R70): the pitch tick that the last pulse produced is taken. -/
  | pitchTick
  /-- TICK (R71): one reference tick, with the sensor lines' levels, which are read here alone (DEDUCED, log 26). -/
  | tick (levels : SensorLevels)
  /-- LEADING_EDGE (R126): the accepted leading edge of this sensor reaches the tracking table. -/
  | leadingEdge (sensor : Sensor)
  /-- TRAILING_EDGE (R130): the accepted trailing edge of this sensor reaches the tracking table. -/
  | trailingEdge (sensor : Sensor)
  /-- START_FAIL (R92). -/
  | startFail
  /-- STALL (R93). -/
  | stall
  /-- IDLE_EXPIRY (R98). -/
  | idleExpiry
  /-- MISFEED (R118): the due FEED window-close deadline of this sequence's record expires. -/
  | misfeed (owner : Seq)
  /-- LATE (R133): the due window-close deadline, on a sensor other than FEED, of this sequence's record expires. -/
  | late (owner : Seq)
  /-- STUCK (R132): the due stuck deadline of this sequence's record expires. -/
  | stuck (owner : Seq)
  /-- COVER_CLOSED_FALL (R94). -/
  | coverClosedFall
  /-- COVER_CLOSED_RISE (R172). -/
  | coverClosedRise
  /-- FUSER_READY_RISE (R91). -/
  | fuserReadyRise
  /-- TRAY_EMPTY_CHANGE (R172): the tray's TRAY_EMPTY input takes this level. -/
  | trayEmptyChange (tray : Tray) (level : Bool)
  /-- STACK_FULL_CHANGE (R172): the stack's STACK_FULL input takes this level. -/
  | stackFullChange (stack : Stack) (level : Bool)
  /-- FUSER_READY_FALL (R91). -/
  | fuserReadyFall
deriving DecidableEq, Repr

end Sys2Proof
end

