-- ==== Sys2Proof/Decode.lean ====
section
/-! DEFINITION. The command a word spells. No row of spec/opcode_table.json gives bits ("fields": [] in every row,
and no "fixed"), so no word spells a command; the request words of the mirror are decoded by BUS_WRITE
(Machine/Requests.lean, R176). -/

namespace Sys2Proof

/-- No row of the table gives bits, so every word is refused (DEDUCED, log 6). -/
def decodeTableWord (_nbits _w : Nat) : Option Instr := none

end Sys2Proof
end

