-- ==== Sys2Proof/Config.lean ====
section
/-! DEFINITION. What the spec leaves open: the free values. Each constant has no body, so nothing can be
proved of its value. -/

namespace Sys2Proof

/-- A byte that "carries no meaning": a byte of an answer that the read did not enable (R1, R165). The first
argument is the model's counter `State.freeCount`, the second the byte's place in the line (DESIGN CHOICE, log 13). -/
opaque Config.freeByte : Nat → Nat → Byte

/-- The level of output line number `line` while POWER_GOOD is low; the spec states none. The first argument is
`State.freeCount` (DESIGN CHOICE, log 12). -/
opaque Config.unpoweredLevel : Nat → Nat → Bool

end Sys2Proof
end

