-- ==== Sys2Proof/Machine/State.lean ====
section
/-! DEFINITION. The state of the 3410 as plain data, block by block (00_scope.md section 3), the outcomes'
reasons, and the state after reset. -/

namespace Sys2Proof.Machine

/-! ## Bus passage (spec/01_bus_passage.md 1.1) -/

/-- What a master is told at the end of its request (R5, R6, R13). -/
inductive Answer where
  /-- A write was completed. -/
  | completion
  /-- A write was aborted. -/
  | abort
  /-- A read was answered with these bytes. -/
  | data (line : Line)
  /-- The memory controller's error was returned to the reader (R13). -/
  | error
deriving DecidableEq, Repr

/-- A master's side of the upstream bus port (R1); the answer is kept as a record of an output (DESIGN CHOICE, log 24). -/
inductive MasterPort where
  /-- No request since the last hardware reset. -/
  | free
  /-- A request is before the passage; its master is held. -/
  | held
  /-- The last request was answered. -/
  | answered (a : Answer)
deriving DecidableEq, Repr

/-- A request presented during a reset period (R24). -/
inductive Request where
  | write (w : WriteReq)
  | read (r : ReadReq)
deriving DecidableEq, Repr

/-- One write-queue entry (1.1, R7); `promoted` is R10's mark. -/
structure QueueEntry where
  line     : LineNo
  data     : Line
  enables  : Enables
  master   : Master
  promoted : Bool
deriving DecidableEq, Repr

/-- One read of the outstanding-read set (1.1, R9). `frameRead` says that it was made by master 3 in the frame
area (R13; DEDUCED, log 23); `issued` that the memory port carries it or has carried it. -/
structure OutstandingRead where
  master    : Master
  line      : LineNo
  enables   : Enables
  frameRead : Bool
  issued    : Bool
deriving DecidableEq, Repr

/-- The downstream memory port (R11). -/
inductive MemoryPort where
  | idle
  /-- A write taken from the queue is in flight. -/
  | write (e : QueueEntry)
  /-- The outstanding read of this master is in flight. -/
  | read (m : Master)
  /-- A request issued before a hardware reset is still in flight; its response will be discarded (R15). -/
  | stale
deriving DecidableEq, Repr

/-- The bus passage's state. -/
structure Bus where
  queue        : List QueueEntry
  reads        : List OutstandingRead
  waiting      : List WriteReq
  port         : MemoryPort
  drain        : Bool
  burst        : Nat
  masters      : Vector MasterPort 4
  heldRequests : List Request
deriving DecidableEq, Repr

/-! ## Setup latch (spec/02_setup_and_arming.md) -/

/-- The outcome of the most recent arm attempt (R18, R174). -/
inductive ArmResult where
  | none | passed | sizeCode | frameCount | align | range | overlap | pitch | offsetRange | offsetOrder
  | loop | horizon | window | limit | paceMarks | exitPath
deriving DecidableEq, Repr

/-- Which hardware reset last occurred (R25). -/
inductive ResetCause where
  | power | line
deriving DecidableEq, Repr

/-- The setup values in force (2.2). `offsets` holds O1 … O10 at places 0 … 9. Dx, Ds and Lp are computed from
them (Machine/Operands.lean). -/
structure Setup where
  memorySize    : Nat
  frameSize     : Nat
  frameCount    : Nat
  pickRetries   : Nat
  frameBase     : Nat
  stagingBase   : Nat
  mirrorBase    : Nat
  pitch         : Nat
  windowHalf    : Nat
  tolerance     : Nat
  stuckMargin   : Nat
  gateTravel    : Nat
  filterLength  : Nat
  stallLimit    : Nat
  startLimit    : Nat
  idleLimit     : Nat
  offsets       : Vector Nat 10
  paceLow       : Nat
  paceHigh      : Nat
  blankByte     : Byte
  firstSequence : Seq
deriving DecidableEq, Repr

/-- The setup latch's state: the image (eight lines), the arm result, the values in force, the delivery record
and the reset cause. -/
structure Latch where
  image       : Vector Line 8
  armResult   : ArmResult
  setup       : Setup
  recordValid : Bool
  recordSeq   : Seq
  cause       : ResetCause
deriving DecidableEq, Repr

/-! ## Frame table (spec/03_page_frames.md) -/

/-- A frame's state; `absent` for a frame number at or above the frame count (R49). -/
inductive FrameState where
  | absent | free | ready | bound
deriving DecidableEq, Repr

/-- A frame record (3.1). The imaging-open flag is computed from the window list. -/
structure FrameRecord where
  state      : FrameState
  count      : Nat
  generation : Byte
  toggle     : Bool
deriving DecidableEq, Repr

/-- The side of a sheet. -/
inductive Side where
  | front | back
deriving DecidableEq, Repr

/-- One side of one sheet (3.6, R105). -/
structure Face where
  seq  : Seq
  side : Side
deriving DecidableEq, Repr

/-- One entry of the imaging window list (3.6). -/
structure WindowEntry where
  frame : Nat
  faces : List Face
deriving DecidableEq, Repr

/-- The frame table's state; `hold` is the pace state (true is Hold). -/
structure Frames where
  table  : Vector FrameRecord 64
  window : List WindowEntry
  free   : Nat
  hold   : Bool
deriving DecidableEq, Repr

/-! ## Order stage (spec/04_sheet_orders.md) -/

inductive Sides where
  | simplex | duplex
deriving DecidableEq, Repr

/-- A frame an order names, with the generation it was built for. -/
structure FrameRef where
  frame      : Nat
  generation : Byte
deriving DecidableEq, Repr

/-- A sheet order's fields (11.2). -/
structure Order where
  seq       : Seq
  setNumber : BitVec 24
  setIndex  : Byte
  lastOfSet : Bool
  sides     : Sides
  tray      : Tray
  dest      : Stack
  length    : Nat
  front     : Option FrameRef
  back      : Option FrameRef
deriving DecidableEq, Repr

/-- One staging slot (R50): PENDING or EMPTY, and the latched copy. -/
structure Slot where
  pending : Bool
  latched : Line
deriving DecidableEq, Repr

/-- One position of the open-set tracker (R56). -/
structure SetPosition where
  isOpen    : Bool
  setNumber : BitVec 24
  setIndex  : Byte
  dest      : Stack
  anchored  : Bool
deriving DecidableEq, Repr

/-- The order stage's state; `queue` is the pending queue of slot numbers (R61). -/
structure Orders where
  slots    : Vector Slot 32
  queue    : List Nat
  ePost    : Seq
  posted   : SetPosition
  launched : SetPosition
deriving DecidableEq, Repr

/-! ## Path clock and sensor front end (spec/05_path_count_sensors_and_windows.md) -/

/-- A filter's pending change: the stable-tick count and the pending stamp (R73). -/
structure PendingChange where
  count : Nat
  stamp : PathCount
deriving DecidableEq, Repr

/-- One sensor filter (R73); no pending change is a stable-tick count of 0. -/
structure Filter where
  level  : Bool
  change : Option PendingChange
deriving DecidableEq, Repr

/-- An accepted change of level (R76), not yet delivered. -/
structure Edge where
  sensor  : Sensor
  leading : Bool
  stamp   : PathCount
deriving DecidableEq, Repr

/-- A pitch tick (R70), not yet taken: the new pitch number, the path count, and whether the path was RUNNING
when it occurred. -/
structure PitchTick where
  number  : PitchNo
  count   : PathCount
  running : Bool
deriving DecidableEq, Repr

/-- The path clock's state. `edges` and `tick` hold what has occurred and has not yet been taken (DEDUCED, log 1). -/
structure Clock where
  pathCount : PathCount
  pitchRem  : Nat
  pitchNo   : PitchNo
  filters   : Vector Filter 6
  edges     : List Edge
  tick      : Option PitchTick
deriving DecidableEq, Repr

/-! ## Path sequencer (spec/06_path_sequencer.md) -/

inductive PathState where
  | unconfigured | idle | starting | running | draining | standby | jammed
deriving DecidableEq, Repr

inductive JamCode where
  | late | early | unexpected | stuck | stall | startFail | cover | halt
deriving DecidableEq, Repr

/-- The jam record (R87). -/
structure JamRecord where
  code    : JamCode
  station : Option Sensor
  seq     : Option Seq
  stamp   : PathCount
deriving DecidableEq, Repr

/-- The path sequencer's state (R87). -/
structure Sequencer where
  path       : PathState
  jam        : Option JamRecord
  startCtr   : Nat
  stallCtr   : Nat
  idleCtr    : Nat
  motionSeen : Bool
deriving DecidableEq, Repr

/-! ## Launch scheduler (spec/07_launch_scheduling.md 7.1) -/

/-- The launch scheduler's state; the PICK lines are computed from the tracking table (R116). -/
structure Launch where
  calendar : Vector (Option Face) 64
  lastExit : Option PitchNo
  lastDest : Option Stack
  stalled  : Vector Bool 4
deriving DecidableEq, Repr

/-! ## Tracking table (spec/08_sheet_tracking_and_delivery.md) -/

inductive SpoilReason where
  | length | fetch | memory
deriving DecidableEq, Repr

/-- A gate decision (R139). -/
inductive Decision where
  | good (s : Stack)
  | purge
deriving DecidableEq, Repr

/-- A record's phase. The gate decision is present exactly while the record is DECIDED, and the diverted mark is
set exactly while the decision is PURGE (R123), so both stand here. -/
inductive Phase where
  | feeding
  | inPath
  | decided (d : Decision)
deriving DecidableEq, Repr

/-- An order copy with its misfeed count (R119, R147). -/
structure OrderCopy where
  order    : Order
  misfeeds : Nat
deriving DecidableEq, Repr

/-- A sheet record (R123). -/
structure Record where
  copy        : OrderCopy
  launchPitch : PitchNo
  launchCount : PathCount
  frontSlot   : PitchNo
  backSlot    : Option PitchNo
  exitSlot    : PitchNo
  nextVisit   : Option Nat
  leadStamp   : Option PathCount
  measured    : Option Nat
  spoiled     : Option SpoilReason
  phase       : Phase
deriving DecidableEq, Repr

/-- One place in an arrival queue (R124, R125). -/
structure Arrival where
  seq      : Seq
  expected : PathCount
deriving DecidableEq, Repr

/-- A sensor's occupant (R129): the record, the visit and the leading stamp of the match. The record is named by its sequence
and launch count, and its declared length is kept with it, since paper can lie on a sensor longer than the record stays
in the table, and its order can be launched again meanwhile (DEDUCED, log 30). -/
structure Occupancy where
  seq    : Seq
  visit  : Nat
  stamp  : PathCount
  launch : PathCount
  length : Nat
deriving DecidableEq, Repr

inductive DeadlineKind where
  | windowClose | stuck
deriving DecidableEq, Repr

/-- A deadline (R77). -/
structure Deadline where
  value  : PathCount
  kind   : DeadlineKind
  sensor : Sensor
  owner  : Seq
deriving DecidableEq, Repr

/-- The tracking table's state (R122). -/
structure Tracking where
  table      : List Record
  arrivals   : Vector (List Arrival) 6
  occupants  : Vector (Option Occupancy) 6
  deadlines  : List Deadline
  gateQueue  : List Seq
  purgeGate  : Bool
  jogB       : Bool
  divertLoop : Bool
  dGate      : Seq
  dDel       : Seq
deriving DecidableEq, Repr

/-! ## Status mirror and event queue (spec/10_status_mirror_and_events.md) -/

/-- What a guard abort protected (11.4, kind 8). -/
inductive GuardTarget where
  | none
  | frame (n : Nat)
  | slot (n : Nat)
deriving DecidableEq, Repr

inductive RefusalReason where
  | slotBusy | sequenceGap | setBreak | form | frameStale | frameFull
deriving DecidableEq, Repr

inductive DivertReason where
  | spoiled (r : SpoilReason)
  | outOfSequence
deriving DecidableEq, Repr

/-- The events of R171 with what each carries. -/
inductive Event where
  | orderRefused (reason : RefusalReason) (slot : Nat)
  | sheetDelivered (seq : Seq) (stack : Stack) (setComplete : Bool)
  | sheetDiverted (seq : Seq) (reason : DivertReason)
  | misfeed (seq : Seq) (tray : Tray) (retry : Nat)
  | trayStalled (tray : Tray) (seq : Seq)
  | jam (code : JamCode) (station : Option Sensor) (seq : Option Seq)
  | frameReleased (frame : Nat) (generation : Byte)
  | guardAbort (target : GuardTarget) (master : Master)
  | fetchBlanked (frame : Nat)
  | rangeFault (master : Master) (line : LineNo)
  | memoryFault (master : Master) (line : LineNo)
  | requestRefused (code : Byte) (path : PathState)
  | resumeRefused (station : Option Sensor)
  | standbyDeclined
  | stateChange (path : PathState)
deriving DecidableEq, Repr

/-- One event record: the event and its path-count stamp (R171). -/
structure EventRecord where
  event : Event
  stamp : PathCount
deriving DecidableEq, Repr

/-- The mirror block's state (10.1). A free position holds none. The standing conditions that follow other state
are computed (Machine/Flags.lean). -/
structure Mirror where
  events        : Vector (Option EventRecord) 32
  head          : Nat
  count         : Nat
  fetchFault    : Bool
  guardSeen     : Bool
  rangeSeen     : Bool
  memoryFault   : Bool
  eventOverrun  : Bool
  lastToggle    : Bool
  control       : BitVec 32
  eventsTaken   : BitVec 32
  clearStanding : BitVec 32
deriving DecidableEq, Repr

/-! ## The whole machine -/

/-- The input lines that hold a level (00_scope.md section 4); ENC and TICK are commands, and the sensor lines'
levels come with TICK. -/
structure Pins where
  powerGood   : Bool
  resetN      : Bool
  fuserReady  : Bool
  coverClosed : Bool
  trayEmpty   : Vector Bool 4
  stackFullA  : Bool
  stackFullB  : Bool
deriving DecidableEq, Repr

/-- The state: the ten blocks, the input levels, the model's free-value counter, and the waiting commands. -/
structure State where
  pins      : Pins
  bus       : Bus
  latch     : Latch
  frames    : Frames
  orders    : Orders
  clock     : Clock
  seqr      : Sequencer
  launch    : Launch
  track     : Tracking
  reprint   : List OrderCopy
  mirror    : Mirror
  freeCount : Nat
  pending   : List Instr
deriving DecidableEq, Repr

/-- Why a command stops the run. -/
inductive Fault where
  /-- Raised by a bus command of a master that the passage still holds: R1 says that a master has at most one
  request before the passage at a time, so the spec gives such a command no effect. Safe (DESIGN CHOICE, log 4). -/
  | masterHeld (m : Master)
deriving DecidableEq, Repr

/-- Why a command is refused. -/
inductive Refusal where
  /-- Raised by `exec` for a command without a meaning: by none. Safe. -/
  | notModelled (mnemonic : String)
deriving DecidableEq, Repr

/-! ## Values after reset -/

/-- The passage after a hardware reset (R15). -/
def Bus.reset (port : MemoryPort) : Bus where
  queue := []
  reads := []
  waiting := []
  port := port
  drain := false
  burst := 0
  masters := Vector.replicate 4 .free
  heldRequests := []

/-- No setup values are in force while UNCONFIGURED; the fields hold zeros that nothing reads (DESIGN CHOICE, log 15). -/
def Setup.notInForce : Setup where
  memorySize := 0
  frameSize := 0
  frameCount := 0
  pickRetries := 0
  frameBase := 0
  stagingBase := 0
  mirrorBase := 0
  pitch := 0
  windowHalf := 0
  tolerance := 0
  stuckMargin := 0
  gateTravel := 0
  filterLength := 0
  stallLimit := 0
  startLimit := 0
  idleLimit := 0
  offsets := Vector.replicate 10 0
  paceLow := 0
  paceHigh := 0
  blankByte := 0
  firstSequence := 0

/-- The latch after a hardware reset with the given delivery record and cause (R16, R22, R23). -/
def Latch.reset (valid : Bool) (seq : Seq) (cause : ResetCause) : Latch where
  image := Vector.replicate 8 0
  armResult := .none
  setup := .notInForce
  recordValid := valid
  recordSeq := seq
  cause := cause

/-- The record of a frame number that does not exist. -/
def FrameRecord.absent : FrameRecord := ⟨.absent, 0, 0, false⟩

/-- The frame table after a hardware reset (R29). -/
def Frames.reset : Frames where
  table := Vector.replicate 64 .absent
  window := []
  free := 0
  hold := true

/-- A closed, unanchored tracker position (R56). Its set number, index and destination have no meaning while it is closed; the
model holds 0, 0 and stack A there (DESIGN CHOICE, log 31). -/
def SetPosition.unanchored : SetPosition := ⟨false, 0, 0, .a, false⟩

/-- The order stage while it is absent (R66), and at arming but for E_post. -/
def Orders.reset (ePost : Seq) : Orders where
  slots := Vector.replicate 32 ⟨false, 0⟩
  queue := []
  ePost := ePost
  posted := .unanchored
  launched := .unanchored

/-- The path clock after a hardware reset and at arming (R68, R69, R73). -/
def Clock.reset : Clock where
  pathCount := 0
  pitchRem := 0
  pitchNo := 0
  filters := Vector.replicate 6 ⟨false, none⟩
  edges := []
  tick := none

/-- The path sequencer after a hardware reset and, with IDLE, at arming (R87). -/
def Sequencer.reset (path : PathState) : Sequencer := ⟨path, none, 0, 0, 0, false⟩

/-- The launch scheduler after a hardware reset and at arming (R104). -/
def Launch.reset : Launch where
  calendar := Vector.replicate 64 none
  lastExit := none
  lastDest := none
  stalled := Vector.replicate 4 false

/-- The tracking table after a hardware reset, and at arming with the counters' start value (R122). -/
def Tracking.reset (start : Seq) : Tracking where
  table := []
  arrivals := Vector.replicate 6 []
  occupants := Vector.replicate 6 none
  deadlines := []
  gateQueue := []
  purgeGate := false
  jogB := false
  divertLoop := false
  dGate := start
  dDel := start

/-- The mirror block after a hardware reset (R164, R165). -/
def Mirror.reset : Mirror where
  events := Vector.replicate 32 none
  head := 0
  count := 0
  fetchFault := false
  guardSeen := false
  rangeSeen := false
  memoryFault := false
  eventOverrun := false
  lastToggle := false
  control := 0
  eventsTaken := 0
  clearStanding := 0

/-- The state right after a power-on reset whose POWER_GOOD rise found RESET_N high (R22, R24; DEDUCED, log 17): UNCONFIGURED, out
of the reset period, no command waiting. The input levels are the model's choice (DESIGN CHOICE, log 14). -/
def State.reset : State where
  pins := ⟨true, true, false, false, Vector.replicate 4 false, false, false⟩
  bus := .reset .idle
  latch := .reset false 0 .power
  frames := .reset
  orders := .reset 0
  clock := .reset
  seqr := .reset .unconfigured
  launch := .reset
  track := .reset 0
  reprint := []
  mirror := .reset
  freeCount := 0
  pending := []

end Sys2Proof.Machine
end

