-- ==== Sys2Proof/Machine/Operands.lean ====
section
/-! DEFINITION. How the part reads its operands: modular comparison (00_scope.md 5.2), bytes of a line, the setup
image's fields (11.1), the order slot's fields (11.2), the routes (R82), and the numbers of the named sets. -/

namespace Sys2Proof

/-- The master number (00_scope.md section 2). -/
def Master.idx : Master → Fin 4
  | .controlProcessor => 0
  | .channelAdapter => 1
  | .formatter => 2
  | .fetcher => 3

/-- The sensor's place in every collection of six; its station code is one more (11.4). -/
def Sensor.idx : Sensor → Fin 6
  | .feed => 0
  | .reg => 1
  | .xfer => 2
  | .fuse => 3
  | .loop => 4
  | .exit => 5

/-- The six sensors in the order of R101. -/
def Sensor.all : List Sensor := [.feed, .reg, .xfer, .fuse, .loop, .exit]

/-- The level of one sensor line. -/
def SensorLevels.get (l : SensorLevels) : Sensor → Bool
  | .feed => l.feed
  | .reg => l.reg
  | .xfer => l.xfer
  | .fuse => l.fuse
  | .loop => l.loop
  | .exit => l.exit

end Sys2Proof

namespace Sys2Proof.Machine

/-! ## Modular comparison (5.2) -/

/-- "A is after B": (A − B) modulo 2^w lies in 1 … 2^(w−1) − 1. -/
def isAfter {w : Nat} (a b : BitVec w) : Bool :=
  decide (0 < (a - b).toNat) && decide ((a - b).toNat < 2 ^ (w - 1))

/-- "A is at or after B". -/
def isAtOrAfter {w : Nat} (a b : BitVec w) : Bool := decide ((a - b).toNat < 2 ^ (w - 1))

/-- "A is before B". -/
def isBefore {w : Nat} (a b : BitVec w) : Bool := isAfter b a

/-! ## Bytes of a line -/

/-- Byte `i` of a little-endian value. -/
def byteAt {w : Nat} (v : BitVec w) (i : Nat) : Byte := v.extractLsb' (8 * i) 8

/-- The line whose byte `i` is `f i`. -/
def packBytes (f : Nat → Byte) : Line :=
  (List.range 32).foldr (fun i acc => acc <<< 8 ||| (f i).setWidth 256) 0

/-- Each enabled byte of `new` replaces the byte of `old` at its place (R7, R16, R51). -/
def mergeLine (old new : Line) (en : Enables) : Line :=
  packBytes fun i => if en.getLsbD i then byteAt new i else byteAt old i

/-- The field of `n` bytes at byte offset `off` of a line (little-endian, chapter 11). -/
def lineField (l : Line) (off n : Nat) : BitVec (8 * n) := l.extractLsb' (8 * off) (8 * n)

/-- A field as an unsigned number. -/
def lineNat (l : Line) (off n : Nat) : Nat := (lineField l off n).toNat

/-- All four bytes from byte `off` of the line are enabled. -/
def enablesWord (en : Enables) (off : Nat) : Bool := en.extractLsb' off 4 == 0xF#4

/-- Byte address of a line's first byte. -/
def lineAddress (l : LineNo) : Nat := l.toNat * 32

/-! ## The setup area (2.1, 2.2, 11.1) -/

/-- A write to setup line `block` is an arm attempt: its enabled bytes include all four bytes of the arm word
(248 to 251, bytes 24 to 27 of line 7), and they carry the arm code 34100001h (R17). -/
def isArmAttempt (block : Nat) (en : Enables) (data : Line) : Bool :=
  block == 7 && enablesWord en 24 && lineField data 24 4 == 0x34100001#32

/-- The arm result byte's value (R174). -/
def ArmResult.code : ArmResult → Byte
  | .none => 0
  | .passed => 1
  | .sizeCode => 2
  | .frameCount => 3
  | .align => 4
  | .range => 5
  | .overlap => 6
  | .pitch => 7
  | .offsetRange => 8
  | .offsetOrder => 9
  | .loop => 10
  | .horizon => 11
  | .window => 12
  | .limit => 13
  | .paceMarks => 14
  | .exitPath => 15

/-- The enables that a capture acts on: the arm result byte 252 (byte 28 of line 7) is read only (R16, R174). -/
def captureEnables (block : Nat) (en : Enables) : Enables :=
  if block = 7 then en &&& ~~~(1#32 <<< 28) else en

/-- The image with a write captured (R16). -/
def captureImage (image : Vector Line 8) (block : Nat) (en : Enables) (data : Line) : Vector Line 8 :=
  image.setIfInBounds block (mergeLine (image[block]?.getD 0) data (captureEnables block en))

/-- The bytes a read of setup line `block` returns: the image, with the arm result in byte 252 (R16). -/
def imageRead (l : Latch) (block : Nat) (i : Nat) : Byte :=
  if block = 7 ∧ i = 28 then ArmResult.code l.armResult else byteAt (l.image[block]?.getD 0) i

/-- Bytes of page memory for a memory size code; 0 for a code that is not valid (11.1). -/
def memorySizeOf (code : Nat) : Nat :=
  if code = 1 then 64 * 1048576
  else if code = 2 then 128 * 1048576
  else if code = 3 then 256 * 1048576
  else if code = 4 then 512 * 1048576
  else 0

/-- Bytes of one frame for a frame size code; 0 for a code that is not valid (11.1). -/
def frameSizeOf (code : Nat) : Nat :=
  if code = 1 then 1048576 else if code = 2 then 2 * 1048576 else if code = 3 then 4 * 1048576 else 0

/-- The setup values of an image, each at the position and width of 11.1 (R174). -/
def setupOf (image : Vector Line 8) : Setup where
  memorySize := memorySizeOf (lineNat image[0] 0 1)
  frameSize := frameSizeOf (lineNat image[0] 1 1)
  frameCount := lineNat image[0] 2 1
  pickRetries := lineNat image[0] 3 1
  frameBase := lineNat image[0] 4 4
  stagingBase := lineNat image[0] 8 4
  mirrorBase := lineNat image[0] 12 4
  pitch := lineNat image[0] 16 2
  windowHalf := lineNat image[0] 18 2
  tolerance := lineNat image[0] 20 2
  stuckMargin := lineNat image[0] 22 2
  gateTravel := lineNat image[0] 24 1
  filterLength := lineNat image[0] 25 1
  stallLimit := lineNat image[0] 26 2
  startLimit := lineNat image[0] 28 2
  idleLimit := lineNat image[0] 30 2
  offsets := #v[lineNat image[1] 0 4, lineNat image[1] 4 4, lineNat image[1] 8 4, lineNat image[1] 12 4,
    lineNat image[1] 16 4, lineNat image[1] 20 4, lineNat image[1] 24 4, lineNat image[1] 28 4,
    lineNat image[2] 0 4, lineNat image[2] 4 4]
  paceLow := lineNat image[2] 8 1
  paceHigh := lineNat image[2] 9 1
  blankByte := lineField image[2] 10 1
  firstSequence := lineField image[2] 12 4

/-- Visit offset Ok, k = 1 … 10. -/
def Setup.offset (u : Setup) (k : Nat) : Nat := u.offsets[k - 1]?.getD 0

/-- Dx = floor(O3 / P) (R19). -/
def Setup.dx (u : Setup) : Nat := u.offset 3 / u.pitch

/-- Ds = floor(O5 / P) (R19). -/
def Setup.ds (u : Setup) : Nat := u.offset 5 / u.pitch

/-- Lp = floor(O8 / P) − Dx (R19). -/
def Setup.lp (u : Setup) : Nat := u.offset 8 / u.pitch - u.dx

/-- The end of the frame area. -/
def Setup.frameEnd (u : Setup) : Nat := u.frameBase + u.frameCount * u.frameSize

/-- The byte ranges [a, b) and [c, d) share no byte. -/
def apart (a b c d : Nat) : Bool := decide (b ≤ c) || decide (d ≤ a)

/-- The fourteen checks of R18 in their order, each with the arm result of its failure. -/
def setupChecks (u : Setup) : List (Bool × ArmResult) :=
  [ (decide (u.memorySize ≠ 0 ∧ u.frameSize ≠ 0), .sizeCode),
    (decide (1 ≤ u.frameCount ∧ u.frameCount ≤ 64), .frameCount),
    (decide (u.frameBase % u.frameSize = 0 ∧ u.stagingBase % 1024 = 0 ∧ u.mirrorBase % 4096 = 0), .align),
    (decide (u.frameEnd ≤ u.memorySize ∧ u.stagingBase + 1024 ≤ u.memorySize ∧
      u.mirrorBase + 4096 ≤ u.memorySize), .range),
    (apart u.frameBase u.frameEnd u.stagingBase (u.stagingBase + 1024) &&
      apart u.frameBase u.frameEnd u.mirrorBase (u.mirrorBase + 4096) &&
      apart u.stagingBase (u.stagingBase + 1024) u.mirrorBase (u.mirrorBase + 4096) &&
      decide (256 ≤ u.frameBase) && decide (256 ≤ u.stagingBase) && decide (256 ≤ u.mirrorBase), .overlap),
    (decide (256 ≤ u.pitch ∧ u.pitch ≤ 16383), .pitch),
    (u.offsets.toList.all fun o => decide (1 ≤ o ∧ o ≤ 1048575), .offsetRange),
    (decide (u.offset 1 < u.offset 2 ∧ u.offset 2 < u.offset 3 ∧ u.offset 3 < u.offset 4 ∧
      u.offset 4 < u.offset 5 ∧ u.offset 4 < u.offset 6 ∧ u.offset 6 < u.offset 7 ∧ u.offset 7 < u.offset 8 ∧
      u.offset 8 < u.offset 9 ∧ u.offset 9 < u.offset 10), .offsetOrder),
    (decide (1 ≤ u.lp ∧ u.offset 10 / u.pitch = u.ds + u.lp), .loop),
    (decide (u.ds + u.lp + u.gateTravel ≤ 60), .horizon),
    (decide (16 ≤ u.windowHalf ∧ 2 * u.windowHalf < u.pitch), .window),
    (decide (u.tolerance ≤ 1023 ∧ 1 ≤ u.stuckMargin ∧ u.stuckMargin ≤ 65535 ∧ u.gateTravel ≤ 3 ∧
      1 ≤ u.filterLength ∧ u.filterLength ≤ 15 ∧ 1 ≤ u.stallLimit ∧ u.stallLimit ≤ 4095 ∧
      1 ≤ u.startLimit ∧ u.startLimit ≤ 65535 ∧ u.idleLimit ≤ 65535 ∧ u.pickRetries ≤ 3), .limit),
    (decide (u.paceLow < u.paceHigh ∧ u.paceHigh ≤ u.frameCount), .paceMarks),
    (decide (u.offset 10 + u.offset 4 = u.offset 5 + u.offset 9), .exitPath) ]

/-- The outcome of validation: the first failing check's result, or PASSED (R18). -/
def validate (u : Setup) : ArmResult :=
  match (setupChecks u).find? fun c => !c.1 with
  | some c => c.2
  | none => .passed

/-! ## The order slot (R53, R175, 11.2) -/

/-- A write to a staging slot is a post: all four bytes of the post word (28 to 31) are enabled and its low half
holds 5A5Ah (R53). -/
def isPost (w : WriteReq) : Bool := enablesWord w.enables 28 && lineField w.data 28 2 == 0x5A5A#16

/-- A frame byte and its generation: FFh is absent (R58, R175). -/
def frameField (frame generation : Byte) : Option FrameRef :=
  if frame = 0xFF then none else some ⟨frame.toNat, generation⟩

/-- The order a latched copy holds (11.2, R175). A sides byte other than 2 and a destination byte other than 2 read
as simplex and stack A; check 3 of R54 looks at the bytes themselves. -/
def orderOfLine (l : Line) : Order where
  seq := lineField l 0 4
  setNumber := lineField l 4 3
  setIndex := lineField l 7 1
  lastOfSet := (byteAt l 8).getLsbD 0
  sides := if byteAt l 9 = 2 then .duplex else .simplex
  tray := Fin.ofNat 4 (byteAt l 10).toNat
  dest := if byteAt l 11 = 2 then .b else .a
  length := lineNat l 12 2
  front := frameField (byteAt l 14) (byteAt l 15)
  back := frameField (byteAt l 16) (byteAt l 17)

/-- The code of a stack (11.4). -/
def Stack.code : Stack → Byte
  | .a => 1
  | .b => 2

/-- Check 2 of R54: the set fields continue the posted position (R57). -/
def setContinues (p : SetPosition) (l : Line) : Bool :=
  let o := orderOfLine l
  if p.isOpen then
    o.setNumber == p.setNumber && decide (o.setIndex.toNat = p.setIndex.toNat + 1) &&
      byteAt l 11 == Stack.code p.dest
  else if p.anchored then o.setIndex == 1
  else decide (1 ≤ o.setIndex.toNat)

/-- A named frame's number exists. -/
def frameExists (frameCount : Nat) : Option FrameRef → Bool
  | none => true
  | some f => decide (f.frame < frameCount)

/-- Check 3 of R54: the order's form is valid (R58). -/
def formValid (frameCount : Nat) (l : Line) : Bool :=
  let o := orderOfLine l
  (byteAt l 9 == 1 || byteAt l 9 == 2) && (byteAt l 11 == 1 || byteAt l 11 == 2) &&
  (match o.sides with
    | .duplex => o.back.isSome && o.front.isSome
    | .simplex => o.back.isNone) &&
  frameExists frameCount o.front && frameExists frameCount o.back &&
  decide (512 ≤ o.length ∧ o.length ≤ 8191) &&
  !(o.setIndex == 255 && !o.lastOfSet)

/-- The tracker position an accepted or launched order leaves (R60, R62). An order that closes its set leaves the position closed
and anchored; its set fields then have no meaning (R56), and the model holds 0, 0 and stack A there (DESIGN CHOICE,
log 31). -/
def positionAfter (o : Order) : SetPosition :=
  if o.lastOfSet then ⟨false, 0, 0, .a, true⟩ else ⟨true, o.setNumber, o.setIndex, o.dest, true⟩

/-- The frames an order names with how often it names each, the front frame first (R35, R59). -/
def Order.needs (o : Order) : List (Nat × Nat) :=
  match o.front, o.back with
  | none, none => []
  | some f, none => [(f.frame, 1)]
  | none, some b => [(b.frame, 1)]
  | some f, some b => if f.frame = b.frame then [(f.frame, 2)] else [(f.frame, 1), (b.frame, 1)]

/-- The named frames with the generations the order gives. -/
def Order.names (o : Order) : List FrameRef := o.front.toList ++ o.back.toList

/-! ## Frame header (R28, R31) -/

/-- The first line of frame `n`. -/
def Setup.headerLine (u : Setup) (n : Nat) : Nat := (u.frameBase + n * u.frameSize) / 32

/-- A write to frame `n` is a commit: to the frame header, all four bytes of the commit word (28 to 31) enabled,
its high half 3C3Ch (R31). -/
def isCommit (u : Setup) (n : Nat) (w : WriteReq) : Bool :=
  decide (w.line.toNat = u.headerLine n) && enablesWord w.enables 28 && lineField w.data 30 2 == 0x3C3C#16

/-- The commit's toggle: bit 0 of byte 28 (11.2). -/
def commitToggle (w : WriteReq) : Bool := (byteAt w.data 28).getLsbD 0

/-! ## Regions (R2, R3) -/

/-- Where an access falls. -/
inductive Region where
  | setup (block : Nat)
  | staging (slot : Nat)
  | mirror (block : Nat)
  | frame (n : Nat)
  | other
  | beyond
deriving DecidableEq, Repr

/-- The armed decode (R3). Arming refuses overlapping regions, so the order of the tests has no effect. -/
def Setup.region (u : Setup) (line : LineNo) : Region :=
  let a := lineAddress line
  if u.memorySize ≤ a then .beyond
  else if u.mirrorBase ≤ a ∧ a < u.mirrorBase + 4096 then .mirror ((a - u.mirrorBase) / 32)
  else if u.stagingBase ≤ a ∧ a < u.stagingBase + 1024 then .staging ((a - u.stagingBase) / 32)
  else if u.frameBase ≤ a ∧ a < u.frameEnd then .frame ((a - u.frameBase) / u.frameSize)
  else if a < 256 then .setup (a / 32)
  else .other

/-- The unconfigured decode (R2). -/
def unconfiguredRegion (line : LineNo) : Region :=
  if lineAddress line < 256 then .setup (lineAddress line / 32) else .other

/-! ## Routes (R82) -/

/-- A route: for each visit its sensor and the number of its offset. -/
def route : Sides → List (Sensor × Nat)
  | .simplex => [(.feed, 1), (.reg, 2), (.xfer, 3), (.fuse, 4), (.exit, 5)]
  | .duplex => [(.feed, 1), (.reg, 2), (.xfer, 3), (.fuse, 4), (.loop, 6), (.reg, 7), (.xfer, 8), (.fuse, 9),
      (.exit, 10)]

/-- Visit `v` (from 1) of a route. -/
def routeVisit (s : Sides) (v : Nat) : Option (Sensor × Nat) := if v = 0 then none else (route s)[v - 1]?

/-- The expected leading-edge count L + Ov (R83). -/
def Setup.expected (u : Setup) (launch : PathCount) (k : Nat) : PathCount :=
  launch + BitVec.ofNat 24 (u.offset k)

/-- The window's opening count L + Ov − W (R83). -/
def Setup.windowOpen (u : Setup) (expected : PathCount) : PathCount := expected - BitVec.ofNat 24 u.windowHalf

/-- The window-close deadline L + Ov + W + 1 (R84). -/
def Setup.windowDeadline (u : Setup) (expected : PathCount) : PathCount :=
  expected + BitVec.ofNat 24 (u.windowHalf + 1)

/-- The stuck deadline a + declared length + K (R84). -/
def Setup.stuckDeadline (u : Setup) (stamp : PathCount) (length : Nat) : PathCount :=
  stamp + BitVec.ofNat 24 (length + u.stuckMargin)

/-- How a leading-edge stamp lies to a window (R83). -/
inductive Classified where
  | within | before | after
deriving DecidableEq, Repr

/-- The classification of stamp `s` against the window with opening count `A` (R83). -/
def Setup.classify (u : Setup) (s A : PathCount) : Classified :=
  if (s - A).toNat ≤ 2 * u.windowHalf then .within else if isAfter A s then .before else .after

/-! ## Slots of the launch schedule -/

/-- The exit slot of a sheet launched at pitch `n`: n + Ds, or n + Ds + Lp (R110). -/
def Setup.exitSlot (u : Setup) (n : PitchNo) : Sides → PitchNo
  | .simplex => n + BitVec.ofNat 16 u.ds
  | .duplex => n + BitVec.ofNat 16 (u.ds + u.lp)

/-- The front transfer slot n + Dx (R105). -/
def Setup.frontSlot (u : Setup) (n : PitchNo) : PitchNo := n + BitVec.ofNat 16 u.dx

/-- The back transfer slot n + Dx + Lp, none for a simplex sheet (R105). -/
def Setup.backSlot (u : Setup) (n : PitchNo) : Sides → Option PitchNo
  | .simplex => none
  | .duplex => some (n + BitVec.ofNat 16 (u.dx + u.lp))

/-- A transfer slot's calendar slot: the pitch number modulo 64 (7.1). -/
def calendarIndex (m : PitchNo) : Nat := m.toNat % 64

end Sys2Proof.Machine
end

