-- ==== Sys2Proof/Machine/Flags.lean ====
section
/-! DEFINITION. Everything computed from the state alone, and not stored a second time (DEDUCED, log 21): whether the part is armed or in a reset period, the output
lines (R24, R88, R116), the standing conditions (R172) and ATTENTION (R173). -/

namespace Sys2Proof.Machine

/-- The part is held in reset: POWER_GOOD low, or RESET_N low (R22, R23, R24). -/
def State.inReset (s : State) : Bool := !(s.pins.powerGood && s.pins.resetN)

/-- The part is armed: any path state but UNCONFIGURED (R20, R87). -/
def State.armed (s : State) : Bool := s.seqr.path != .unconfigured

/-- RUN_TRANSPORT is high in STARTING, RUNNING and DRAINING (R88). -/
def PathState.driven : PathState → Bool
  | .starting => true
  | .running => true
  | .draining => true
  | .unconfigured => false
  | .idle => false
  | .standby => false
  | .jammed => false

/-- The path is in a state whose edge events are delivered and whose transport runs (R76, R88). -/
def State.driven (s : State) : Bool := s.seqr.path.driven

/-- The setup values in force. -/
def State.setup (s : State) : Setup := s.latch.setup

/-- The frame's record; a number beyond the table is absent. -/
def Frames.at (f : Frames) (n : Nat) : FrameRecord := f.table[n]?.getD .absent

/-- The region of a line, by the decode in force (R2, R3). -/
def State.region (s : State) (line : LineNo) : Region :=
  if s.armed then s.setup.region line else unconfiguredRegion line

/-- The pending queue, the reprint list and the tracking table are all empty (R98). -/
def State.nothingToDo (s : State) : Bool := s.orders.queue.isEmpty && s.reprint.isEmpty && s.track.table.isEmpty

/-- PICK[t] is high exactly while the table holds a record of tray t in the phase FEEDING (R116). -/
def State.pick (s : State) (t : Tray) : Bool :=
  s.track.table.any fun r => r.copy.order.tray == t && r.phase == .feeding

/-- A record is marked diverted exactly while its decision is PURGE (R123). -/
def Record.diverted (r : Record) : Bool := r.phase == .decided .purge

/-- The input level of STACK_FULL for a stack. -/
def Pins.stackFull (p : Pins) : Stack → Bool
  | .a => p.stackFullA
  | .b => p.stackFullB

/-! ## Standing conditions (R172) -/

/-- The conditions that follow other state or the inputs are evaluated from the successful arm on; PACE_HOLD follows
the pace state always (R164). -/
structure Conditions where
  jammed       : Bool
  coverOpen    : Bool
  trayEmpty    : Vector Bool 4
  stackFullA   : Bool
  stackFullB   : Bool
  paceHold     : Bool
  trayStalled  : Vector Bool 4
  fetchFault   : Bool
  guardSeen    : Bool
  rangeSeen    : Bool
  memoryFault  : Bool
  eventOverrun : Bool
deriving DecidableEq, Repr

/-- The standing conditions of R172. -/
def State.conditions (s : State) : Conditions where
  jammed := s.seqr.path == .jammed
  coverOpen := s.armed && !s.pins.coverClosed
  trayEmpty := s.pins.trayEmpty.map fun b => s.armed && b
  stackFullA := s.armed && s.pins.stackFullA
  stackFullB := s.armed && s.pins.stackFullB
  paceHold := s.frames.hold
  trayStalled := s.launch.stalled
  fetchFault := s.mirror.fetchFault
  guardSeen := s.mirror.guardSeen
  rangeSeen := s.mirror.rangeSeen
  memoryFault := s.mirror.memoryFault
  eventOverrun := s.mirror.eventOverrun

/-- The standing conditions as the flags of bits 0 to 17 (11.4). -/
def Conditions.bits (c : Conditions) : List Bool :=
  [c.jammed, c.coverOpen] ++ c.trayEmpty.toList ++ [c.stackFullA, c.stackFullB, c.paceHold] ++
    c.trayStalled.toList ++ [c.fetchFault, c.guardSeen, c.rangeSeen, c.memoryFault, c.eventOverrun]

/-- ATTENTION (R173): from the successful arm on, high while the event queue holds a record or a standing condition
is set; low otherwise. -/
def State.attention (s : State) : Bool :=
  !s.inReset && s.armed && (decide (0 < s.mirror.count) || s.conditions.bits.any id)

/-! ## Output lines -/

/-- The levels of the output lines (00_scope.md section 4). -/
structure Outputs where
  runTransport : Bool
  fuserStandby : Bool
  pick         : Vector Bool 4
  divertLoop   : Bool
  purgeGate    : Bool
  jogB         : Bool
  paceHold     : Bool
  attention    : Bool
deriving DecidableEq, Repr

/-- The output lines. While POWER_GOOD is low the spec states no level: each is a free value (DESIGN CHOICE, log 12). During a reset
period and while UNCONFIGURED every output is low except PACE_HOLD (R24). -/
def State.outputs (s : State) : Outputs :=
  if s.pins.powerGood then
    { runTransport := s.driven
      fuserStandby := s.seqr.path == .standby
      pick := Vector.ofFn s.pick
      divertLoop := s.track.divertLoop
      purgeGate := s.track.purgeGate
      jogB := s.track.jogB
      paceHold := s.frames.hold
      attention := s.attention }
  else
    { runTransport := Config.unpoweredLevel s.freeCount 0
      fuserStandby := Config.unpoweredLevel s.freeCount 1
      pick := Vector.ofFn fun t => Config.unpoweredLevel s.freeCount (2 + t.val)
      divertLoop := Config.unpoweredLevel s.freeCount 6
      purgeGate := Config.unpoweredLevel s.freeCount 7
      jogB := Config.unpoweredLevel s.freeCount 8
      paceHold := Config.unpoweredLevel s.freeCount 9
      attention := Config.unpoweredLevel s.freeCount 10 }

end Sys2Proof.Machine
end

