-- ==== Sys2Proof/Machine/Ops.lean ====
section
/-! DEFINITION. The shared operations: raising an event, answering a master, the frame table's operations, the path
sequencer's entries, spoiling, the gate queue, the reprint list, the freeze and the jam. Every meaning is written
over these. -/

namespace Sys2Proof.Machine

/-! ## Events (R171) -/

/-- Queue a record: written at (head + count) mod 32 when fewer than 32 are held, otherwise discarded with
EVENT_OVERRUN set (R171). -/
def Mirror.push (r : EventRecord) (m : Mirror) : Mirror :=
  if m.count < 32 then
    { m with events := m.events.setIfInBounds ((m.head + m.count) % 32) (some r), count := m.count + 1 }
  else { m with eventOverrun := true }

/-- Raise an event with the stamp its rule names (R171). -/
def State.raiseAt (e : Event) (stamp : PathCount) (s : State) : State :=
  { s with mirror := s.mirror.push ⟨e, stamp⟩ }

/-- Raise an event stamped with the path count at this acceptance (R171). -/
def State.raise (e : Event) (s : State) : State := s.raiseAt e s.clock.pathCount

/-- Set GUARD_SEEN and raise GUARD_ABORT (R4, R32, R52). -/
def State.guardAbort (target : GuardTarget) (m : Master) (s : State) : State :=
  State.raise (.guardAbort target m) { s with mirror := { s.mirror with guardSeen := true } }

/-- Set RANGE_SEEN and raise RANGE_FAULT (R6). -/
def State.rangeFault (m : Master) (line : LineNo) (s : State) : State :=
  State.raise (.rangeFault m line) { s with mirror := { s.mirror with rangeSeen := true } }

/-- REQUEST_REFUSED with the request code as written and the path state (R89, R167). -/
def State.refuse (code : Byte) (s : State) : State := s.raise (.requestRefused code s.seqr.path)

/-! ## The upstream bus (R1, R5) -/

/-- The state of a master's side of the bus. -/
def Bus.portOf (b : Bus) (m : Master) : MasterPort := b.masters[m.idx]

/-- Set a master's side of the bus. -/
def Bus.setPort (b : Bus) (m : Master) (p : MasterPort) : Bus := { b with masters := b.masters.set m.idx p }

/-- The master is held on the bus (R1). -/
def State.busHeld (s : State) (m : Master) : Bool := s.bus.portOf m == .held

/-- Answer a master: it is no longer held (R5). -/
def State.answer (m : Master) (a : Answer) (s : State) : State := { s with bus := s.bus.setPort m (.answered a) }

/-- Hold a master until its request is answered (R1). -/
def State.hold (m : Master) (s : State) : State := { s with bus := s.bus.setPort m .held }

/-- The bytes of an answered read: `f` where the read enables the byte, a free value where it does not (R1, R165;
DESIGN CHOICE, log 13). -/
def State.answerBytes (s : State) (en : Enables) (f : Nat → Byte) : Line :=
  packBytes fun i => if en.getLsbD i then f i else Config.freeByte s.freeCount i

/-- Answer a read from the part's own bytes (R5). -/
def State.answerRead (r : ReadReq) (f : Nat → Byte) (s : State) : State :=
  State.answer r.master (.data (s.answerBytes r.enables f)) { s with freeCount := s.freeCount + 1 }

/-! ## Frame table (chapter 3) -/

/-- Replace a frame's record. -/
def Frames.put (f : Frames) (n : Nat) (r : FrameRecord) : Frames := { f with table := f.table.setIfInBounds n r }

/-- Evaluate the pace state (R48). -/
def Frames.evalPace (u : Setup) (f : Frames) : Frames :=
  { f with hold := if f.free ≤ u.paceLow then true else if u.paceHigh ≤ f.free then false else f.hold }

/-- Change the free-frame count and evaluate the pace state in the same acceptance (R47, R48). -/
def Frames.setFree (u : Setup) (n : Nat) (f : Frames) : Frames := Frames.evalPace u { f with free := n }

/-- Apply a change to the frame table. -/
def State.onFrames (g : Frames → Frames) (s : State) : State := { s with frames := g s.frames }

/-- A commit takes effect: READY, the toggle stored, the generation advanced (R33, R34). -/
def FrameRecord.commit (t : Bool) (r : FrameRecord) : FrameRecord :=
  { r with state := .ready, toggle := t, generation := r.generation + 1 }

/-- A frame becomes FREE and the free-frame count rises by one (R34, R39). -/
def Frames.freeUp (u : Setup) (n : Nat) (f : Frames) : Frames :=
  Frames.setFree u (f.free + 1) (f.put n { f.at n with state := .free })

/-- The frame table's verdict on a write to frame `n`, accept (true) or refuse, with its effects (R30 to R34). -/
def frameWrite (n : Nat) (w : WriteReq) (s : State) : Bool × State :=
  let r := s.frames.at n
  match r.state with
  | .bound => (false, s.guardAbort (.frame n) w.master)
  | .free =>
    if isCommit s.setup n w && commitToggle w != r.toggle then
      (true, s.onFrames fun f => Frames.setFree s.setup (f.free - 1) (f.put n (r.commit (commitToggle w))))
    else (true, s)
  | .ready =>
    if isCommit s.setup n w then
      if commitToggle w != r.toggle then (true, s.onFrames fun f => f.put n (r.commit (commitToggle w)))
      else (true, s)
    else (true, s.onFrames (Frames.freeUp s.setup n))
  | .absent => (true, s)

/-- The frame is stale for an order that names this generation (R35). -/
def Frames.stale (f : Frames) (x : FrameRef) : Bool :=
  let r := f.at x.frame
  !((r.state == .ready || r.state == .bound) && r.generation == x.generation)

/-- The frame's count plus the references needed would exceed 255 (R35). -/
def Frames.full (f : Frames) (need : Nat × Nat) : Bool := decide (255 < (f.at need.1).count + need.2)

/-- Take `n` references on a frame: the count rises by n and a READY frame becomes BOUND (R35). -/
def Frames.takeRef (f : Frames) (need : Nat × Nat) : Frames :=
  let r := f.at need.1
  f.put need.1 { r with state := .bound, count := r.count + need.2 }

/-- Release `n` references on a frame; a count that reaches 0 makes the frame READY and raises FRAME_RELEASED with
its generation (R36). A frame that is not BOUND holds no reference to release (R37). -/
def releaseOne (s : State) (need : Nat × Nat) : State :=
  let r := s.frames.at need.1
  if r.state = .bound then
    if r.count ≤ need.2 then
      (s.onFrames fun f => f.put need.1 { r with state := .ready, count := 0 }).raise
        (.frameReleased need.1 r.generation)
    else s.onFrames fun f => f.put need.1 { r with count := r.count - need.2 }
  else s

/-- Release all the references of an order, the front frame's first (R36). -/
def State.release (o : Order) (s : State) : State := o.needs.foldl releaseOne s

/-- The number of open faces (3.6). -/
def Frames.openFaces (f : Frames) : Nat := (f.window.map fun e => e.faces.length).sum

/-- The imaging-open face count of a frame: 0 when clear (3.1, R49). -/
def Frames.openCount (f : Frames) (n : Nat) : Nat :=
  match f.window.find? fun e => e.frame == n with
  | some e => e.faces.length
  | none => 0

/-- The frame has an entry in the imaging window list (R43). -/
def Frames.inWindow (f : Frames) (n : Nat) : Bool := f.window.any fun e => e.frame == n

/-- A face joins its frame's entry, or a new entry is appended (R40). -/
def Frames.openFace (f : Frames) (n : Nat) (face : Face) : Frames :=
  if f.inWindow n then
    { f with window := f.window.map fun e => if e.frame = n then { e with faces := e.faces ++ [face] } else e }
  else { f with window := f.window ++ [⟨n, [face]⟩] }

/-- A face is removed from its frame's entry, and an entry without a face is removed (R42). -/
def Frames.closeFace (f : Frames) (face : Face) : Frames :=
  { f with window :=
      (f.window.map fun e => { e with faces := e.faces.filter (· != face) }).filter (fun e => !e.faces.isEmpty) }

/-- Every open face of a sheet that leaves the table is closed (R136), as a close of each of them does (R42). -/
def Frames.closeSheet (q : Seq) (f : Frames) : Frames :=
  { f with window :=
      (f.window.map fun e => { e with faces := e.faces.filter fun x => x.seq != q }).filter fun e => !e.faces.isEmpty }

/-- The sheets of every open face, in the order of the list (R44, R45). -/
def Frames.openSheets (f : Frames) : List Seq := f.window.flatMap fun e => e.faces.map Face.seq

/-! ## Sheet records -/

/-- The sequence of a record. -/
def Record.seq (r : Record) : Seq := r.copy.order.seq

/-- The record of a sequence. -/
def Tracking.find (t : Tracking) (q : Seq) : Option Record := t.table.find? fun r => r.seq == q

/-- Change the record of a sequence in place. -/
def Tracking.modify (q : Seq) (g : Record → Record) (t : Tracking) : Tracking :=
  { t with table := t.table.map fun r => if r.seq = q then g r else r }

/-- Remove a record; the rest keep their order (R122). -/
def Tracking.remove (q : Seq) (t : Tracking) : Tracking := { t with table := t.table.filter fun r => r.seq != q }

/-- Apply a change to the tracking table. -/
def State.onTrack (g : Tracking → Tracking) (s : State) : State := { s with track := g s.track }

/-- Free the calendar slot that holds a face; a face that is not in the calendar frees nothing (R106). -/
def State.freeFace (face : Face) (s : State) : State :=
  { s with launch := { s.launch with calendar := s.launch.calendar.map fun c => if c = some face then none else c } }

/-- Free every calendar slot that holds a face of a sheet that leaves the table (R106). -/
def State.freeSheet (q : Seq) (s : State) : State :=
  { s with launch := { s.launch with
      calendar := s.launch.calendar.map fun c => if c.map Face.seq = some q then none else c } }

/-! ## The gate (section 8.6) -/

/-- The gate lines show a decision (R140). -/
def Tracking.showDecision (d : Decision) (t : Tracking) : Tracking :=
  match d with
  | .good .a => { t with purgeGate := false, jogB := false }
  | .good .b => { t with purgeGate := false, jogB := true }
  | .purge => { t with purgeGate := true }

/-- The decision of the record of a sequence, when it is DECIDED. -/
def Tracking.decisionOf (t : Tracking) (q : Seq) : Option Decision :=
  match (t.find q).map Record.phase with
  | some (.decided d) => some d
  | _ => none

/-- The gate lines take the level of the head's decision; with an empty queue they are kept (R140). -/
def Tracking.showHead (t : Tracking) : Tracking :=
  match t.gateQueue with
  | [] => t
  | q :: _ =>
    match t.decisionOf q with
    | some d => t.showDecision d
    | none => t

/-- A DECIDED record joins the tail of the gate queue; as the new head it sets the lines (R138, R140). -/
def Tracking.joinGate (q : Seq) (t : Tracking) : Tracking :=
  let t' := { t with gateQueue := t.gateQueue ++ [q] }
  if t.gateQueue.isEmpty then t'.showHead else t'

/-- A record leaves the gate queue; when the head leaves, the lines follow the new head (R138, R140). -/
def Tracking.leaveGate (q : Seq) (t : Tracking) : Tracking :=
  let t' := { t with gateQueue := t.gateQueue.filter (· != q) }
  if t.gateQueue.head? = some q then t'.showHead else t'

/-! ## Spoiling (R135, R141) -/

/-- The records behind `q` in the gate queue. -/
def behind (q : Seq) : List Seq → List Seq
  | [] => []
  | x :: xs => if x = q then xs else behind q xs

/-- A good decision becomes PURGE (R141). -/
def Record.revert (r : Record) : Record :=
  match r.phase with
  | .decided (.good _) => { r with phase := .decided .purge }
  | _ => r

/-- Late spoiling of a record with a good decision (R141): it and every good record behind it become PURGE, D_gate is
set to its sequence, and PURGE_GATE rises when it is the head. -/
def Tracking.lateSpoil (q : Seq) (t : Tracking) : Tracking :=
  let later := behind q t.gateQueue
  { t with
    table := t.table.map fun r => if r.seq = q ∨ r.seq ∈ later then r.revert else r
    dGate := q
    purgeGate := if t.gateQueue.head? = some q then true else t.purgeGate }

/-- Spoil a sheet: the first reason is kept, and a spoiling that reaches a record with a good decision is late
spoiling (R46, R135, R141). -/
def Tracking.spoil (q : Seq) (why : SpoilReason) (t : Tracking) : Tracking :=
  match t.find q with
  | none => t
  | some r =>
    if r.spoiled.isSome then t
    else
      let t' := t.modify q fun x => { x with spoiled := some why }
      match r.phase with
      | .decided (.good _) => t'.lateSpoil q
      | _ => t'

/-- Spoil the sheet of every face in the imaging window list (R44, R45). -/
def State.spoilOpen (why : SpoilReason) (s : State) : State :=
  s.onTrack fun t => s.frames.openSheets.foldl (fun acc q => acc.spoil q why) t

/-! ## Reprint list (R148) -/

/-- Insert an order copy after every entry with a lower sequence and before every entry with a higher one. -/
def insertCopy (c : OrderCopy) : List OrderCopy → List OrderCopy
  | [] => [c]
  | x :: xs => if isAfter x.order.seq c.order.seq then c :: x :: xs else x :: insertCopy c xs

/-- Insert in the reprint list; the idle counter becomes 0 when the list becomes non-empty (R98, R148). -/
def State.toReprint (c : OrderCopy) (s : State) : State :=
  { s with
    reprint := insertCopy c s.reprint
    seqr := if s.reprint.isEmpty then { s.seqr with idleCtr := 0 } else s.seqr }

/-! ## Path states (chapter 6) -/

/-- Apply a change to the sequencer. -/
def State.onSeqr (g : Sequencer → Sequencer) (s : State) : State := { s with seqr := g s.seqr }

/-- A path state is entered and STATE_CHANGE raised (R87). -/
def State.enter (p : PathState) (s : State) : State :=
  State.raise (.stateChange p) (s.onSeqr fun q => { q with path := p })

/-- The entry to STARTING: RUN_TRANSPORT rises, so the pitch remainder and the stall counter become 0; the start
counter becomes 0 and the motion-seen flag is cleared (R69, R90, R93, R100). -/
def State.enterStarting (s : State) : State :=
  State.enter .starting
    { s with
      clock := { s.clock with pitchRem := 0 }
      seqr := { s.seqr with startCtr := 0, stallCtr := 0, motionSeen := false } }

/-- The entry to RUNNING: the start and idle counters become 0 (R91); the motion-seen flag is left as it is
(DEDUCED, log 27). -/
def State.enterRunning (s : State) : State :=
  State.enter .running (s.onSeqr fun q => { q with startCtr := 0, idleCtr := 0 })

/-- The table, empty when the path stops, leaves no occupant, arrival or deadline behind (R77, R96, R129; DEDUCED, log 18). -/
def Tracking.stopped (t : Tracking) : Tracking :=
  { t with arrivals := Vector.replicate 6 [], occupants := Vector.replicate 6 none, deadlines := [] }

/-- The entry to IDLE or STANDBY: RUN_TRANSPORT is low and the three counters are 0 (R92, R93, R97, R98). -/
def State.enterStopped (p : PathState) (s : State) : State :=
  State.enter p
    { s with
      seqr := { s.seqr with startCtr := 0, stallCtr := 0, idleCtr := 0 }
      track := s.track.stopped }

/-- In DRAINING, an empty tracking table takes the path to IDLE in the same acceptance (R97). -/
def State.drainDone (s : State) : State :=
  if s.seqr.path = .draining ∧ s.track.table = [] then s.enterStopped .idle else s

/-- The entry to DRAINING from STARTING or RUNNING: RUN_TRANSPORT stays high, the start and idle counters become 0;
with the table empty the path enters IDLE in the same acceptance (R92, R97, R98). -/
def State.enterDraining (s : State) : State :=
  State.drainDone (State.enter .draining (s.onSeqr fun q => { q with startCtr := 0, idleCtr := 0 }))

/-! ## Jam and freeze (R96, R154, R155) -/

/-- The state cleared with the stranded records (R155). -/
def Tracking.frozen (t : Tracking) : Tracking :=
  { t with
    table := []
    arrivals := Vector.replicate 6 []
    occupants := Vector.replicate 6 none
    deadlines := []
    gateQueue := []
    dGate := t.dDel }

/-- The calendar, last exit slot and last destination are cleared; the stall flags are kept (R104). -/
def Launch.cleared (l : Launch) : Launch :=
  { l with calendar := Vector.replicate 64 none, lastExit := none, lastDest := none }

/-- The freeze: every record of the tracking table, in table order, is inserted in the reprint list, and the
sheet-flow state that belonged to the records is cleared (R154, R155). -/
def State.freeze (s : State) : State :=
  { s with
    reprint := s.track.table.foldl (fun l r => insertCopy r.copy l) s.reprint
    track := s.track.frozen
    launch := s.launch.cleared
    frames := { s.frames with window := [] } }

/-- A jam cause (R96): taken in STARTING, RUNNING or DRAINING it enters JAMMED, in any other state it changes
nothing. -/
def State.jam (code : JamCode) (station : Option Sensor) (seq : Option Seq) (stamp : PathCount) (s : State) : State :=
  if s.driven then
    let s1 := s.onSeqr fun q =>
      { q with jam := some ⟨code, station, seq, stamp⟩, startCtr := 0, stallCtr := 0, idleCtr := 0,
               motionSeen := false }
    State.enter .jammed (s1.freeze.raiseAt (.jam code station seq) stamp)
  else s

/-- A jam cause of the sequencer itself: no station, no sequence, the path count as its stamp (R96). -/
def State.jamHere (code : JamCode) (s : State) : State := s.jam code none none s.clock.pathCount

end Sys2Proof.Machine
end

