-- ==== Sys2Proof/Machine/OrderStage.lean ====
section
/-! DEFINITION. The order stage (spec/04_sheet_orders.md): staging writes, the post and its checks, acceptance, and
CANCEL_PENDING. -/

namespace Sys2Proof.Machine

/-- The record of a staging slot; every slot number is below 32. -/
def Orders.slot (o : Orders) (k : Nat) : Slot := o.slots[k]?.getD ⟨false, 0⟩

/-- Replace a slot's record. -/
def Orders.putSlot (o : Orders) (k : Nat) (x : Slot) : Orders := { o with slots := o.slots.setIfInBounds k x }

/-- The order of a slot, from its latched copy (R50, R61). -/
def Orders.orderAt (o : Orders) (k : Nat) : Order := orderOfLine (o.slot k).latched

/-- Checks 1 to 5 of R54 on a latched copy; the first that fails gives the reason. -/
def postCheck (s : State) (l : Line) : Option RefusalReason :=
  let o := orderOfLine l
  if o.seq != s.orders.ePost then some .sequenceGap
  else if !setContinues s.orders.posted l then some .setBreak
  else if !formValid s.setup.frameCount l then some .form
  else if o.names.any s.frames.stale then some .frameStale
  else if o.needs.any s.frames.full then some .frameFull
  else none

/-- Acceptance of a post (R60): the references are taken, the slot becomes PENDING and joins the tail of the pending
queue, E_post advances, the posted position follows the order; a pending queue that becomes non-empty clears the
idle counter (R98); in STANDBY with the cover closed the path wakes (R100). -/
def acceptOrder (k : Nat) (o : Order) (s : State) : State :=
  let s1 : State :=
    { s with
      frames := o.needs.foldl Frames.takeRef s.frames
      orders :=
        { s.orders.putSlot k { s.orders.slot k with pending := true } with
          queue := s.orders.queue ++ [k]
          ePost := s.orders.ePost + 1
          posted := positionAfter o }
      seqr := if s.orders.queue.isEmpty then { s.seqr with idleCtr := 0 } else s.seqr }
  if s.seqr.path = .standby ∧ s.pins.coverClosed = true then s1.enterStarting else s1

/-- A post to an EMPTY slot, its bytes already latched: refused with the first failing reason, or accepted (R54). -/
def post (k : Nat) (s : State) : State :=
  match postCheck s (s.orders.slot k).latched with
  | some r => s.raise (.orderRefused r k)
  | none => acceptOrder k (s.orders.orderAt k) s

/-- The order stage's verdict on a write to slot `k`, accept (true) or refuse, with its effects (R51 to R53). -/
def stagingWrite (k : Nat) (w : WriteReq) (s : State) : Bool × State :=
  let x := s.orders.slot k
  if x.pending then
    if isPost w then (false, s.raise (.orderRefused .slotBusy k))
    else (false, s.guardAbort (.slot k) w.master)
  else
    let s1 : State :=
      { s with orders := s.orders.putSlot k { x with latched := mergeLine x.latched w.data w.enables } }
    (true, if isPost w then post k s1 else s1)

/-- A slot becomes EMPTY, its latched copy kept (R62, R63, R65). -/
def Orders.empty (o : Orders) (k : Nat) : Orders := o.putSlot k { o.slot k with pending := false }

/-- One pending order is taken back: its references are released and its slot becomes EMPTY (R63). -/
def cancelOne (s : State) (k : Nat) : State :=
  let s1 := s.release (s.orders.orderAt k)
  { s1 with orders := s1.orders.empty k }

/-- CANCEL_PENDING when it is taken (R63): every entry is removed head first, E_post becomes the head's sequence, and
the posted position becomes a copy of the launched position. -/
def State.cancelAll (s : State) : State :=
  match s.orders.queue with
  | [] => s
  | k :: _ =>
    let s1 := s.orders.queue.foldl cancelOne s
    { s1 with orders :=
        { s1.orders with queue := [], ePost := (s.orders.orderAt k).seq, posted := s.orders.launched } }

end Sys2Proof.Machine
end

