-- ==== Sys2Proof/Machine/Requests.lean ====
section
/-! DEFINITION. The requests of the control word and the other request words (R89, R166 to R170, R176): what each does
to the state once the mirror block has taken it. -/

namespace Sys2Proof.Machine

/-! ## Path-state requests (chapter 6) -/

/-- RUN (R90). -/
def requestRun (s : State) : State :=
  match s.seqr.path with
  | .idle => if s.pins.coverClosed then s.enterStarting else s.refuse 1
  | .standby => if s.pins.coverClosed then s.enterStarting else s.refuse 1
  | .starting => s
  | .running => s
  | .draining => s.refuse 1
  | .jammed => s.refuse 1
  | .unconfigured => s

/-- DRAIN (R97). -/
def requestDrain (s : State) : State :=
  match s.seqr.path with
  | .running => s.enterDraining
  | .starting => s.enterDraining
  | .standby => s.enterStopped .idle
  | .idle => s
  | .draining => s
  | .jammed => s.refuse 2
  | .unconfigured => s

/-- HALT (R95). -/
def requestHalt (s : State) : State := if s.driven then s.jamHere .halt else s.refuse 3

/-- The first sensor with a high filtered level, in the order of R101. -/
def State.firstHigh (s : State) : Option Sensor :=
  Sensor.all.find? fun sn => (s.clock.filters[sn.idx]).level

/-- RESUME (R101). -/
def requestResume (s : State) : State :=
  if s.seqr.path = .jammed then
    match s.firstHigh with
    | some sn => s.raise (.resumeRefused (some sn))
    | none => if s.pins.coverClosed then s.enterStopped .idle else s.raise (.resumeRefused none)
  else s.refuse 4

/-- STANDBY (R99). -/
def requestStandby (s : State) : State :=
  match s.seqr.path with
  | .running => if s.nothingToDo then s.enterStopped .standby else s.raise .standbyDeclined
  | .standby => s
  | .idle => s.refuse 5
  | .starting => s.refuse 5
  | .draining => s.refuse 5
  | .jammed => s.refuse 5
  | .unconfigured => s

/-- The path states in which CANCEL_PENDING and PATH_RESET are taken (R89). -/
def PathState.stopped : PathState → Bool
  | .idle => true
  | .standby => true
  | .jammed => true
  | .unconfigured => false
  | .starting => false
  | .running => false
  | .draining => false

/-- CANCEL_PENDING (R63). -/
def requestCancel (s : State) : State := if s.seqr.path.stopped then s.cancelAll else s.refuse 6

/-- One BOUND frame becomes READY at a path reset, with FRAME_RELEASED (R38). -/
def resetFrame (s : State) (n : Nat) : State :=
  let r := s.frames.at n
  if r.state = .bound then
    (s.onFrames fun f => f.put n { r with state := .ready, count := 0 }).raise (.frameReleased n r.generation)
  else s.onFrames fun f => f.put n { r with count := 0 }

/-- The frame table at a path reset: every count 0, every BOUND frame READY with one FRAME_RELEASED each, in ascending
frame number; the window list emptied (R38). -/
def State.resetFrames (s : State) : State :=
  let s1 := (List.range 64).foldl resetFrame s
  s1.onFrames fun f => { f with window := [] }

/-- The order stage at a path reset (R65). -/
def Orders.pathReset (dDel : Seq) (o : Orders) : Orders :=
  { slots := o.slots.map fun x => { x with pending := false }
    queue := []
    ePost := dDel
    posted := .unanchored
    launched := .unanchored }

/-- PATH_RESET when it is taken, in one acceptance (R38, R65, R102, R104, R162): the sheet-flow state is cleared, and
from STANDBY and JAMMED STATE_CHANGE(IDLE) follows the FRAME_RELEASED events. -/
def State.pathReset (s : State) : State :=
  let s1 := s.resetFrames
  let s2 : State :=
    { s1 with
      orders := s1.orders.pathReset s.track.dDel
      track := s1.track.frozen
      launch := s1.launch.cleared
      reprint := []
      seqr := { s1.seqr with path := .idle, startCtr := 0, stallCtr := 0, idleCtr := 0, motionSeen := false } }
  if s.seqr.path = .idle then s2 else s2.raise (.stateChange .idle)

/-- PATH_RESET (R102). -/
def requestPathReset (s : State) : State := if s.seqr.path.stopped then s.pathReset else s.refuse 7

/-- CLEAR_TRAY_STALL with its argument (R120). -/
def requestClearTrayStall (argument : Byte) (s : State) : State :=
  if h : argument.toNat < 4 then
    { s with
      launch := { s.launch with stalled := s.launch.stalled.set argument.toNat false h }
      reprint := s.reprint.map fun c => if c.order.tray.val = argument.toNat then { c with misfeeds := 0 } else c }
  else s.refuse 8

/-- RELEASE_FRAME with its argument (R39). -/
def requestReleaseFrame (argument : Byte) (s : State) : State :=
  let n := argument.toNat
  if s.setup.frameCount ≤ n then s.refuse 9
  else
    match (s.frames.at n).state with
    | .ready => s.onFrames (Frames.freeUp s.setup n)
    | .free => s
    | .bound => s.refuse 9
    | .absent => s.refuse 9

/-- A condition set clears the latched conditions its bits 0 to 4 name (R169, R176). -/
def clearConditions (set : Byte) (s : State) : State :=
  { s with mirror :=
      { s.mirror with
        fetchFault := s.mirror.fetchFault && !set.getLsbD 0
        guardSeen := s.mirror.guardSeen && !set.getLsbD 1
        rangeSeen := s.mirror.rangeSeen && !set.getLsbD 2
        memoryFault := s.mirror.memoryFault && !set.getLsbD 3
        eventOverrun := s.mirror.eventOverrun && !set.getLsbD 4 } }

/-! ## The control word (R167, R176) -/

/-- Hand a request that is not a repeat to its owner by its code; an unknown code is refused as written (R167, R176). -/
def dispatchRequest (code argument : Byte) (s : State) : State :=
  match code.toNat with
  | 1 => requestRun s
  | 2 => requestDrain s
  | 3 => requestHalt s
  | 4 => requestResume s
  | 5 => requestStandby s
  | 6 => requestCancel s
  | 7 => requestPathReset s
  | 8 => requestClearTrayStall argument s
  | 9 => requestReleaseFrame argument s
  | 10 => clearConditions argument s
  | _ => s.refuse code

/-- A write interpreted as the control word (R166, R167): its bytes are kept for read-back; with the last-taken toggle it
is a repeat and is not taken, otherwise the toggle is stored and the request handed over in the same acceptance. -/
def controlWord (code argument toggleByte unused : Byte) (s : State) : State :=
  let s1 : State := { s with mirror := { s.mirror with control := unused ++ toggleByte ++ argument ++ code } }
  let t := toggleByte.getLsbD 0
  if t = s.mirror.lastToggle then s1
  else dispatchRequest code argument { s1 with mirror := { s1.mirror with lastToggle := t } }

/-- Remove the min(n, count) oldest records; each position freed is cleared (R170). -/
def Mirror.take (n : Nat) (m : Mirror) : Mirror :=
  let k := min n m.count
  { m with
    events := (List.range k).foldl (fun ev i => ev.setIfInBounds ((m.head + i) % 32) none) m.events
    head := (m.head + k) % 32
    count := m.count - k }

/-- A write interpreted as the events-taken word (R170). -/
def eventsTakenWord (n : Byte) (rest : BitVec 24) (s : State) : State :=
  { s with mirror := Mirror.take n.toNat { s.mirror with eventsTaken := rest ++ n } }

/-- A write interpreted as the clear-standing word (R169). -/
def clearStandingWord (set : Byte) (rest : BitVec 24) (s : State) : State :=
  clearConditions set { s with mirror := { s.mirror with clearStanding := rest ++ set } }

/-- A write to mirror line `block` by master 0, 1 or 2 (R166): a write that enables all four bytes of a request word is
interpreted; any other is ignored. -/
def mirrorWrite (block : Nat) (en : Enables) (data : Line) (s : State) : State :=
  if enablesWord en 0 then
    match block with
    | 8 => controlWord (byteAt data 0) (byteAt data 1) (byteAt data 2) (byteAt data 3) s
    | 9 => eventsTakenWord (byteAt data 0) (lineField data 1 3) s
    | 10 => clearStandingWord (byteAt data 0) (lineField data 1 3) s
    | _ => s
  else s

end Sys2Proof.Machine
end

