-- ==== Sys2Proof/Machine/SetupLatch.lean ====
section
/-! DEFINITION. The setup latch (spec/02_setup_and_arming.md): capture, arm attempts and the resets. -/

namespace Sys2Proof.Machine

/-- The frame table at a successful arm: frames 0 to frame count − 1 FREE with generation 0, toggle 0 and count 0,
the free-frame count at the frame count, the pace state evaluated (R29, R47, R48). -/
def Frames.armed (u : Setup) (hold : Bool) : Frames :=
  Frames.evalPace u
    { table := Vector.ofFn fun n => if n.val < u.frameCount then ⟨.free, 0, 0, false⟩ else .absent
      window := []
      free := u.frameCount
      hold := hold }

/-- The sequence counters' start value: one past a valid delivery record, else the first sequence (R26). -/
def Latch.startSeq (l : Latch) (u : Setup) : Seq := if l.recordValid then l.recordSeq + 1 else u.firstSequence

/-- A passed arm attempt: the image is captured, the values are in force, the arm result is PASSED, and every block
takes its starting values in this one acceptance (R20, R26, R29, R66, R68, R69, R73, R87, R104, R122, R147). The
event queue, the latched conditions and the toggle are kept (R164); no event is raised (R87). -/
def State.armAccept (image : Vector Line 8) (u : Setup) (s : State) : State :=
  let start := s.latch.startSeq u
  { s with
    latch := { s.latch with image := image, armResult := .passed, setup := u }
    frames := .armed u s.frames.hold
    orders := .reset start
    clock := .reset
    seqr := .reset .idle
    launch := .reset
    track := .reset start
    reprint := [] }

/-- A write that the unconfigured decode hands to the latch: an arm attempt is validated over the image with its own
bytes, and a failed one is aborted with nothing captured but the arm result (what is not held until arming keeps its values:
DESIGN CHOICE, log 15); any other write is captured (R16 to R18, R20). The answer says which. -/
def setupWrite (block : Nat) (en : Enables) (data : Line) (s : State) : Answer × State :=
  let image := captureImage s.latch.image block en data
  if isArmAttempt block en data then
    match validate (setupOf image) with
    | .passed => (.completion, s.armAccept image (setupOf image))
    | r => (.abort, { s with latch := { s.latch with armResult := r } })
  else (.completion, { s with latch := { s.latch with image := image } })

/-- A request in flight on the memory port at a hardware reset stays in flight, its response to be discarded (R15; DEDUCED,
log 10). -/
def MemoryPort.afterReset : MemoryPort → MemoryPort
  | .idle => .idle
  | .write _ => .stale
  | .read _ => .stale
  | .stale => .stale

/-- Every block at the values its chapter gives for a hardware reset; the input levels, the port's request in
flight, the model's counter and the waiting commands are not the part's own to reset. What the part does not hold until
arming (the setup values, the order stage, the sequence counters, the reprint list) stands at zeros and empty lists
(DESIGN CHOICE, log 15). -/
def State.hardReset (latch : Latch) (s : State) : State :=
  { s with
    bus := .reset s.bus.port.afterReset
    latch := latch
    frames := .reset
    orders := .reset 0
    clock := .reset
    seqr := .reset .unconfigured
    launch := .reset
    track := .reset 0
    reprint := []
    mirror := .reset }

/-- The values of a power-on reset: the delivery record invalid with sequence 0, the cause POWER (R22). -/
def State.powerOnValues (s : State) : State := s.hardReset (.reset false 0 .power)

/-- The values of a line reset: the delivery record kept, the cause LINE (R23). -/
def State.lineResetValues (s : State) : State :=
  s.hardReset (.reset s.latch.recordValid s.latch.recordSeq .line)

end Sys2Proof.Machine
end

