-- ==== Sys2Proof/Machine/Views.lean ====
section
/-! DEFINITION. The views of the status mirror (R165, R177, 11.4): every byte that a mirror read answers with. -/

namespace Sys2Proof.Machine

/-! ## Codes (11.4) -/

def FrameState.code : FrameState → Byte
  | .absent => 0
  | .free => 1
  | .ready => 2
  | .bound => 3

/-- UNCONFIGURED has no mirror and no code. -/
def PathState.code : PathState → Byte
  | .unconfigured => 0
  | .idle => 1
  | .starting => 2
  | .running => 3
  | .draining => 4
  | .standby => 5
  | .jammed => 6

def JamCode.code : JamCode → Byte
  | .late => 1
  | .early => 2
  | .unexpected => 3
  | .stuck => 4
  | .stall => 5
  | .startFail => 6
  | .cover => 7
  | .halt => 8

def stationCode : Option Sensor → Byte
  | none => 0
  | some sn => BitVec.ofNat 8 (sn.idx.val + 1)

def RefusalReason.code : RefusalReason → Byte
  | .slotBusy => 1
  | .sequenceGap => 2
  | .setBreak => 3
  | .form => 4
  | .frameStale => 5
  | .frameFull => 6

def SpoilReason.code : SpoilReason → Byte
  | .length => 1
  | .fetch => 2
  | .memory => 3

def DivertReason.code : DivertReason → Byte
  | .spoiled r => r.code
  | .outOfSequence => 4

def Sides.code : Sides → Byte
  | .simplex => 1
  | .duplex => 2

def Decision.code : Decision → Byte
  | .good k => Stack.code k
  | .purge => 3

def Phase.code : Phase → Byte
  | .feeding => 1
  | .inPath => 2
  | .decided _ => 3

def masterCode (m : Master) : Byte := BitVec.ofNat 8 m.idx.val

def bit (b : Bool) (k : Nat) : Byte := if b then BitVec.ofNat 8 (2 ^ k) else 0

/-! ## Event records (11.4) -/

/-- The fields of an event record's 16 bytes; a field the kind does not use is 0 (R171, R177). -/
structure EventFields where
  kind    : Byte
  reason  : Byte := 0
  station : Byte := 0
  detail  : Byte := 0
  subject : BitVec 32 := 0
  extra   : Byte := 0
deriving DecidableEq, Repr

/-- The address of a line's first byte, as an event's subject (R177). -/
def lineSubject (l : LineNo) : BitVec 32 := BitVec.ofNat 32 (lineAddress l)

/-- The fields of each event kind (11.4, R171). -/
def Event.fields : Event → EventFields
  | .orderRefused r k => { kind := 1, reason := r.code, subject := BitVec.ofNat 32 k }
  | .sheetDelivered q k c =>
    { kind := 2, station := 6, detail := Stack.code k, subject := q, extra := bit c 0 }
  | .sheetDiverted q r => { kind := 3, reason := r.code, station := 6, subject := q }
  | .misfeed q t n =>
    { kind := 4, station := 1, detail := BitVec.ofNat 8 t.val, subject := q, extra := BitVec.ofNat 8 n }
  | .trayStalled t q => { kind := 5, detail := BitVec.ofNat 8 t.val, subject := q }
  | .jam c st q =>
    { kind := 6, reason := c.code, station := stationCode st, subject := q.getD 0, extra := bit q.isSome 0 }
  | .frameReleased n g => { kind := 7, detail := g, subject := BitVec.ofNat 32 n }
  | .guardAbort .none m => { kind := 8, reason := 0, detail := masterCode m }
  | .guardAbort (.frame n) m => { kind := 8, reason := 1, detail := masterCode m, subject := BitVec.ofNat 32 n }
  | .guardAbort (.slot n) m => { kind := 8, reason := 2, detail := masterCode m, subject := BitVec.ofNat 32 n }
  | .fetchBlanked n => { kind := 9, subject := BitVec.ofNat 32 n }
  | .rangeFault m l => { kind := 10, detail := masterCode m, subject := lineSubject l }
  | .memoryFault m l => { kind := 11, detail := masterCode m, subject := lineSubject l }
  | .requestRefused c p => { kind := 12, reason := c, detail := p.code }
  | .resumeRefused st => { kind := 13, station := stationCode st }
  | .standbyDeclined => { kind := 14 }
  | .stateChange p => { kind := 15, detail := p.code }

/-- Byte `i` of an event record (11.4). -/
def EventRecord.byte (r : EventRecord) (i : Nat) : Byte :=
  let f := r.event.fields
  if i = 0 then f.kind
  else if i = 1 then f.reason
  else if i = 2 then f.station
  else if i = 3 then f.detail
  else if i < 8 then byteAt f.subject (i - 4)
  else if i < 11 then byteAt r.stamp (i - 8)
  else if i = 11 then f.extra
  else 0

/-! ## The views, byte `i` of the view's line -/

/-- Identity (000h): part code 3410h, revision 01h. -/
def identityByte (i : Nat) : Byte := if i = 0 then 0x10 else if i = 1 then 0x34 else if i = 2 then 0x01 else 0

/-- Path state and jam record (020h, R103). -/
def pathByte (q : Sequencer) (i : Nat) : Byte :=
  if i = 0 then q.path.code
  else
    match q.jam with
    | none => 0
    | some j =>
      if i = 1 then j.code.code
      else if i = 2 then stationCode j.station
      else if i = 3 then bit j.seq.isSome 0
      else if i < 8 then byteAt (j.seq.getD 0) (i - 4)
      else if i < 11 then byteAt j.stamp (i - 8)
      else 0

/-- Byte `i` of a list of flags, bit 0 first. -/
def flagByte (l : List Bool) (i : Nat) : Byte :=
  (List.range 8).foldr (fun k acc => acc ||| bit (l[8 * i + k]?.getD false) k) 0

/-- Standing conditions (040h, R172). -/
def conditionByte (s : State) (i : Nat) : Byte := if i < 4 then flagByte s.conditions.bits i else 0

/-- Sequence counters (060h, R67, R142). -/
def counterByte (s : State) (i : Nat) : Byte :=
  if i < 4 then byteAt s.orders.ePost i
  else if i < 8 then byteAt s.track.dGate (i - 4)
  else if i < 12 then byteAt s.track.dDel (i - 8)
  else if i = 12 then bit s.latch.recordValid 0
  else 0

/-- Frame and pace (080h, R49). -/
def paceByte (f : Frames) (i : Nat) : Byte :=
  if i = 0 then BitVec.ofNat 8 f.free else if i = 1 then bit f.hold 0 else 0

/-- Pending queue (0A0h, R67): the depth and the head's sequence. -/
def pendingByte (o : Orders) (i : Nat) : Byte :=
  if i = 0 then BitVec.ofNat 8 o.queue.length
  else if 4 ≤ i ∧ i < 8 then
    match o.queue with
    | [] => 0
    | k :: _ => byteAt (orderOfLine (o.slots[k]?.getD ⟨false, 0⟩).latched).seq (i - 4)
  else 0

/-- Sensors (0C0h, R86): the filtered levels. -/
def sensorByte (c : Clock) (i : Nat) : Byte :=
  match c.filters[i]? with
  | some f => bit f.level 0
  | none => 0

/-- Reset cause (0E0h, R25). -/
def causeByte (l : Latch) (i : Nat) : Byte :=
  if i = 0 then
    match l.cause with
    | .power => 1
    | .line => 2
  else 0

/-- A request word's read-back value in bytes 0 to 3 (R165). -/
def wordByte (w : BitVec 32) (i : Nat) : Byte := if i < 4 then byteAt w i else 0

/-- Event queue control (160h). -/
def eventControlByte (m : Mirror) (i : Nat) : Byte :=
  if i = 0 then BitVec.ofNat 8 m.head else if i = 1 then BitVec.ofNat 8 m.count else 0

/-- Event record positions (200h); a free position is all zero bytes (R170). -/
def eventByte (m : Mirror) (off : Nat) : Byte :=
  match m.events[off / 16]? with
  | some (some r) => r.byte (off % 16)
  | _ => 0

/-- A tracking-table entry (400h, R146). -/
def Record.byte (r : Record) (i : Nat) : Byte :=
  let o := r.copy.order
  if i < 4 then byteAt o.seq i
  else if i = 4 then r.phase.code
  else if i = 5 then BitVec.ofNat 8 o.tray.val
  else if i = 6 then Stack.code o.dest
  else if i = 7 then o.sides.code
  else if i = 8 then
    bit o.lastOfSet 0 ||| bit r.diverted 1 ||| bit r.backSlot.isSome 2 ||| bit r.leadStamp.isSome 3
  else if i = 9 then BitVec.ofNat 8 (r.nextVisit.getD 0)
  else if i = 10 then
    match r.spoiled with
    | none => 0
    | some w => w.code
  else if i = 11 then
    match r.phase with
    | .decided d => d.code
    | _ => 0
  else if i < 14 then byteAt r.launchPitch (i - 12)
  else if i < 16 then byteAt r.frontSlot (i - 14)
  else if i < 18 then byteAt (r.backSlot.getD 0) (i - 16)
  else if i < 20 then byteAt r.exitSlot (i - 18)
  else if i < 23 then byteAt r.launchCount (i - 20)
  else if i = 23 then 0
  else if i < 27 then byteAt (r.leadStamp.getD 0) (i - 24)
  else if i = 27 then 0
  else if i < 31 then
    match r.measured with
    | none => 0xFF
    | some m => byteAt (BitVec.ofNat 24 m) (i - 28)
  else 0

/-- The tracking table view (400h): entry `j`; entries beyond the last record are all 0 (R146). -/
def trackByte (t : Tracking) (j i : Nat) : Byte :=
  match t.table[j]? with
  | some r => r.byte i
  | none => 0

/-- A frame-table entry (600h, R49). -/
def frameByte (f : Frames) (n i : Nat) : Byte :=
  let r := f.at n
  if i = 0 then r.state.code
  else if i = 1 then BitVec.ofNat 8 r.count
  else if i = 2 then r.generation
  else bit r.toggle 0 ||| (BitVec.ofNat 8 (f.openCount n) <<< 1)

/-- The reprint list's sequences (720h, R163). -/
def reprintByte (l : List OrderCopy) (off : Nat) : Byte :=
  match l[off / 4]? with
  | some c => byteAt c.order.seq (off % 4)
  | none => 0

/-- Byte `i` of mirror line `block` (R165, R177, 11.4); every byte that belongs to no view reads 0. -/
def mirrorByte (s : State) (block i : Nat) : Byte :=
  match block with
  | 0 => identityByte i
  | 1 => pathByte s.seqr i
  | 2 => conditionByte s i
  | 3 => counterByte s i
  | 4 => paceByte s.frames i
  | 5 => pendingByte s.orders i
  | 6 => sensorByte s.clock i
  | 7 => causeByte s.latch i
  | 8 => wordByte s.mirror.control i
  | 9 => wordByte s.mirror.eventsTaken i
  | 10 => wordByte s.mirror.clearStanding i
  | 11 => eventControlByte s.mirror i
  | _ =>
    if 16 ≤ block ∧ block < 32 then eventByte s.mirror (32 * (block - 16) + i)
    else if 32 ≤ block ∧ block < 48 then trackByte s.track (block - 32) i
    else if 48 ≤ block ∧ block < 56 then frameByte s.frames (8 * (block - 48) + i / 4) (i % 4)
    else if block = 56 then (if i = 0 then BitVec.ofNat 8 s.reprint.length else 0)
    else if block = 57 ∨ block = 58 then reprintByte s.reprint (32 * (block - 57) + i)
    else 0

end Sys2Proof.Machine
end

