-- ==== Sys2Proof/Machine/Passage.lean ====
section
/-! DEFINITION. The bus passage (spec/01_bus_passage.md): taking a write, waiting, the write queue, reads, promotion, the
memory port and the drain burst. -/

namespace Sys2Proof.Machine

/-- Apply a change to the passage's state. -/
def State.onBus (g : Bus → Bus) (s : State) : State := { s with bus := g s.bus }

/-! ## The write queue (R7, R10, R12) -/

/-- An entry holds the memory line. -/
def Bus.holdsLine (b : Bus) (l : LineNo) : Bool := b.queue.any fun e => e.line == l

/-- A read of the line is in the outstanding-read set and has not issued (R9, R10). -/
def Bus.readWaits (b : Bus) (l : LineNo) : Bool := b.reads.any fun r => r.line == l && !r.issued

/-- A write merges into the entry of its line: enabled bytes replace the entry's, the enables become the union, the place
and the opening master are kept (R7); a blocked read's line stays promoted (R10). -/
def QueueEntry.merge (w : WriteReq) (promote : Bool) (e : QueueEntry) : QueueEntry :=
  { e with
    data := mergeLine e.data w.data w.enables
    enables := e.enables ||| w.enables
    promoted := e.promoted || promote }

/-- Acceptance into the queue: merge, or a new entry at the tail (R7), promoted when an unissued read of the line is in the
outstanding-read set (R10). Bringing the queue to 13 or more entries with drain mode off begins a drain burst (R12). -/
def Bus.accept (w : WriteReq) (b : Bus) : Bus :=
  let p := b.readWaits w.line
  let q :=
    if b.holdsLine w.line then b.queue.map fun e => if e.line = w.line then e.merge w p else e
    else b.queue ++ [⟨w.line, w.data, w.enables, w.master, p⟩]
  if b.drain = false ∧ 13 ≤ q.length then { b with queue := q, drain := true, burst := 0 }
  else { b with queue := q }

/-- The drain account after a write has issued and left the queue `q` (R12): in drain mode the burst count rises; at 4, or
with the queue empty, the burst ends, and a new one begins at once when 13 or more entries remain. Outside a burst the count is 0
(DEDUCED, log 28). -/
def Bus.afterIssue (q : List QueueEntry) (b : Bus) : Bus :=
  if b.drain then
    if q.isEmpty then { b with queue := q, drain := false, burst := 0 }
    else if 4 ≤ b.burst + 1 then { b with queue := q, drain := decide (13 ≤ q.length), burst := 0 }
    else { b with queue := q, burst := b.burst + 1 }
  else { b with queue := q }

/-! ## Taking a write (R2, R4 to R8) -/

/-- The write goes to the write queue: master 0 to 2, and to the setup area while armed, the staging area, the frame area or
other memory (R2, R4, R8). -/
def State.queueing (s : State) (w : WriteReq) : Bool :=
  w.master != .fetcher &&
  (match s.region w.line with
    | .setup _ => s.armed
    | .staging _ => true
    | .frame _ => true
    | .other => true
    | .mirror _ => false
    | .beyond => false)

/-- The write needs a new queue entry (R8). -/
def State.needsPlace (s : State) (w : WriteReq) : Bool := s.queueing w && !s.bus.holdsLine w.line

/-- The write can be taken now, behind the older waiting writes (R8): one that does not queue always; one whose line an
entry holds at once, without waiting for older ones; one that needs a place when there is one and no older waiting
write needs it. -/
def State.canTake (s : State) (older : List WriteReq) (w : WriteReq) : Bool :=
  !s.needsPlace w || (decide (s.bus.queue.length < 16) && !older.any s.needsPlace)

/-- The owner's verdict and its effects, for a queueing write (R4 check 4, R8); the setup area and other memory need none. -/
def verdict (w : WriteReq) (s : State) : Bool × State :=
  match s.region w.line with
  | .staging k => stagingWrite k w s
  | .frame n => frameWrite n w s
  | .setup _ => (true, s)
  | .mirror _ => (true, s)
  | .other => (true, s)
  | .beyond => (true, s)

/-- A queueing write is taken: an accept queues and completes it, a refuse aborts it (R5, R8). -/
def takeQueueing (w : WriteReq) (s : State) : State :=
  match verdict w s with
  | (true, t) => (t.onBus (Bus.accept w)).answer w.master .completion
  | (false, t) => t.answer w.master .abort

/-- What a write by master 3 targets: the frame when its address lies in the frame area, else none (R4). -/
def State.guardTarget (s : State) (l : LineNo) : GuardTarget :=
  match s.region l with
  | .frame n => .frame n
  | _ => .none

/-- A write is taken, its region decoded by the decode now in force (R2, R4; DEDUCED, log 16). -/
def takeWrite (w : WriteReq) (s : State) : State :=
  if w.master = .fetcher then (s.guardAbort (s.guardTarget w.line) w.master).answer w.master .abort
  else
    match s.region w.line with
    | .beyond => (s.rangeFault w.master w.line).answer w.master .abort
    | .mirror k => (mirrorWrite k w.enables w.data s).answer w.master .completion
    | .setup k =>
      if s.armed then takeQueueing w s
      else
        match setupWrite k w.enables w.data s with
        | (a, t) => t.answer w.master a
    | .staging _ => takeQueueing w s
    | .frame _ => takeQueueing w s
    | .other => takeQueueing w s

/-- A presented write outside a reset period: with no enabled byte it is completed at once (R1); otherwise it is taken, or it
waits and holds its master (R8). -/
def presentWrite (w : WriteReq) (s : State) : State :=
  if w.enables = 0 then s.answer w.master .completion
  else if s.canTake s.bus.waiting w then takeWrite w s
  else State.hold w.master (s.onBus fun b => { b with waiting := b.waiting ++ [w] })

/-- A waiting write is taken (R8). -/
def takeWaiting (w : WriteReq) (s : State) : State :=
  takeWrite w (s.onBus fun b => { b with waiting := b.waiting.erase w })

/-! ## Reads (R1, R2, R4, R6, R9, R10, R43, R44) -/

/-- A passed read joins the outstanding-read set; a queue entry of its line is promoted (R9, R10). -/
def passRead (r : ReadReq) (frameRead : Bool) (s : State) : State :=
  State.hold r.master (s.onBus fun b =>
    { b with
      reads := b.reads ++ [⟨r.master, r.line, r.enables, frameRead, false⟩]
      queue := b.queue.map fun e => if e.line = r.line then { e with promoted := true } else e })

/-- A fetcher read of a frame outside the window is blanked: the blank byte in every byte, FETCH_BLANKED, FETCH_FAULT, and
every open face's sheet spoiled FETCH (R44). -/
def blankRead (r : ReadReq) (n : Nat) (s : State) : State :=
  let s1 : State := { s with mirror := { s.mirror with fetchFault := true } }
  ((s1.raise (.fetchBlanked n)).spoilOpen .fetch).answer r.master (.data (packBytes fun _ => s.setup.blankByte))

/-- A presented read outside a reset period (R1, R2, R4). -/
def presentRead (r : ReadReq) (s : State) : State :=
  if r.enables = 0 then s.answerRead r fun _ => 0
  else
    match s.region r.line with
    | .beyond => (s.rangeFault r.master r.line).answer r.master (.data (packBytes fun _ => 0xFF))
    | .mirror k => s.answerRead r (mirrorByte s k)
    | .setup k => if s.armed then passRead r false s else s.answerRead r (imageRead s.latch k)
    | .frame n =>
      if r.master = .fetcher then
        if s.frames.inWindow n then passRead r true s else blankRead r n s
      else passRead r false s
    | .staging _ => passRead r false s
    | .other => passRead r false s

/-! ## The memory port (R11, R12) -/

/-- What the port issues. -/
inductive Issue where
  | write (e : QueueEntry)
  | read (r : OutstandingRead)
deriving DecidableEq, Repr

/-- A read of the set that has not issued and whose line no entry holds (R9). -/
def Bus.ready (b : Bus) (r : OutstandingRead) : Bool := !r.issued && !b.holdsLine r.line

/-- The oldest entry when drain mode asks for it (R11, item 3). -/
def Bus.drainEntry (b : Bus) : Option QueueEntry := if b.drain then b.queue.head? else none

/-- The first of the five items of R11 that exists. -/
def Bus.choose (b : Bus) : Option Issue :=
  match b.queue.find? QueueEntry.promoted with
  | some e => some (.write e)
  | none =>
    match b.reads.find? fun r => r.master == .fetcher && b.ready r with
    | some r => some (.read r)
    | none =>
      match b.drainEntry with
      | some e => some (.write e)
      | none =>
        match b.reads.find? b.ready with
        | some r => some (.read r)
        | none => b.queue.head?.map .write

/-- An issued write leaves the queue; an issued read stays in the set until it is answered (R11). -/
def Bus.issue (i : Issue) (b : Bus) : Bus :=
  match i with
  | .write e => Bus.afterIssue (b.queue.filter fun x => x.line != e.line) { b with port := .write e }
  | .read r =>
    { b with
      port := .read r.master
      reads := b.reads.map fun x => if x.master = r.master then { x with issued := true } else x }

/-- The free port issues the first item of R11. -/
def issueNext (s : State) : State :=
  match s.bus.port, s.bus.choose with
  | .idle, some i => s.onBus (Bus.issue i)
  | _, _ => s

/-! ## Answers from memory (R13, R14, R15) -/

/-- The port becomes free. -/
def Bus.freePort (b : Bus) : Bus := { b with port := .idle }

/-- The outstanding read of a master. -/
def Bus.readOf (b : Bus) (m : Master) : Option OutstandingRead := b.reads.find? fun r => r.master == m

/-- The read of this master leaves the set and the port is free (R13). -/
def Bus.endRead (m : Master) (b : Bus) : Bus := { b.freePort with reads := b.reads.filter fun r => r.master != m }

/-- The memory controller returns read data (R13). -/
def takeReadResponse (data : Line) (s : State) : State :=
  match s.bus.port with
  | .read m => (s.onBus (Bus.endRead m)).answer m (.data data)
  | .stale => s.onBus Bus.freePort
  | .idle => s
  | .write _ => s

/-- The memory controller answers a read with an error (R13); for a fetcher read of the frame area the sheets of the open
faces are spoiled MEMORY (R45). -/
def takeReadError (s : State) : State :=
  match s.bus.port with
  | .read m =>
    let s1 := (s.onBus (Bus.endRead m)).answer m .error
    match s.bus.readOf m with
    | some r => if r.frameRead then s1.spoilOpen .memory else s1
    | none => s1
  | .stale => s.onBus Bus.freePort
  | .idle => s
  | .write _ => s

/-- The memory controller completes a write (R11). -/
def takeWriteResponse (s : State) : State :=
  match s.bus.port with
  | .write _ => s.onBus Bus.freePort
  | .stale => s.onBus Bus.freePort
  | .idle => s
  | .read _ => s

/-- The memory controller answers a write with an error: MEMORY_FAULT with the line and the entry's opening master, the
standing condition set, no retry (R14). -/
def takeWriteError (s : State) : State :=
  match s.bus.port with
  | .write e =>
    let s1 := s.onBus Bus.freePort
    State.raise (.memoryFault e.master e.line) { s1 with mirror := { s1.mirror with memoryFault := true } }
  | .stale => s.onBus Bus.freePort
  | .idle => s
  | .read _ => s

end Sys2Proof.Machine
end

