-- ==== Sys2Proof/Machine/Tracking.lean ====
section
/-! DEFINITION. The tracking table (spec/08_sheet_tracking_and_delivery.md): arrivals and deadlines, leading and
trailing edges, the gate decision, delivery and diversion, and the expiries. -/

namespace Sys2Proof.Machine

/-! ## Arrival queues and deadlines (8.2, 5.4) -/

/-- Insert after every record whose expected count is before or equal, before every record whose expected count is
after (R125). -/
def insertArrival (a : Arrival) : List Arrival → List Arrival
  | [] => [a]
  | x :: xs => if isAfter x.expected a.expected then a :: x :: xs else x :: insertArrival a xs

/-- A sensor's arrival queue. -/
def Tracking.queueAt (t : Tracking) (sn : Sensor) : List Arrival := t.arrivals[sn.idx]

/-- Replace a sensor's arrival queue. -/
def Tracking.putQueue (t : Tracking) (sn : Sensor) (q : List Arrival) : Tracking :=
  { t with arrivals := t.arrivals.set sn.idx q }

/-- A sensor's occupant entry (R129). -/
def Tracking.occupant (t : Tracking) (sn : Sensor) : Option Occupancy := t.occupants[sn.idx]

/-- Replace a sensor's occupant entry. -/
def Tracking.putOccupant (t : Tracking) (sn : Sensor) (o : Option Occupancy) : Tracking :=
  { t with occupants := t.occupants.set sn.idx o }

/-- Two occupancies are of one record: of one sequence and one launch of it (R129; DEDUCED, log 30). -/
def Occupancy.sameRecord (a b : Occupancy) : Bool := a.seq == b.seq && a.launch == b.launch

/-- The sensors that the record of `o` occupies, with the occupancies (R129). -/
def Tracking.occupancies (t : Tracking) (o : Occupancy) : List (Sensor × Occupancy) :=
  Sensor.all.filterMap fun sn =>
    match t.occupant sn with
    | some x => if x.sameRecord o then some (sn, x) else none
    | none => none

/-- The record of an occupancy, while it is in the table; a later launch of the same sequence is another record (log 30). -/
def Tracking.recordOf (t : Tracking) (o : Occupancy) : Option Record :=
  (t.find o.seq).filter fun r => r.launchCount == o.launch

/-- Withdraw a record's deadline of one kind (R79). -/
def Tracking.withdraw (kind : DeadlineKind) (q : Seq) (t : Tracking) : Tracking :=
  { t with deadlines := t.deadlines.filter fun d => !(d.kind == kind && d.owner == q) }

/-- Withdraw the stuck deadline of a sequence that is bound to a sensor (R79, R129). -/
def Tracking.withdrawStuck (sn : Sensor) (q : Seq) (t : Tracking) : Tracking :=
  { t with deadlines := t.deadlines.filter fun d => !(d.kind == .stuck && d.sensor == sn && d.owner == q) }

/-- Set a deadline (R77, R78). -/
def Tracking.setDeadline (d : Deadline) (t : Tracking) : Tracking := { t with deadlines := t.deadlines ++ [d] }

/-- A record awaits visit `v`: it stands in the arrival queue of the visit's sensor with the expected count L + Ov and
holds the window-close deadline there (R124, R84). -/
def Tracking.await (u : Setup) (q : Seq) (launch : PathCount) (sides : Sides) (v : Nat) (t : Tracking) : Tracking :=
  match routeVisit sides v with
  | none => t
  | some (sn, k) =>
    let e := u.expected launch k
    (t.putQueue sn (insertArrival ⟨q, e⟩ (t.queueAt sn))).setDeadline ⟨u.windowDeadline e, .windowClose, sn, q⟩

/-! ## Leaving the path (8.7) -/

/-- A record leaves the table at its EXIT trailing edge: it leaves the gate queue and the table (R143, R144), a face of it that
is still open is closed (R136), and a calendar slot that still holds one is freed (R106). -/
def State.leavePath (q : Seq) (s : State) : State :=
  ((s.onTrack fun t => Tracking.remove q (Tracking.leaveGate q t)).onFrames (Frames.closeSheet q)).freeSheet q

/-- A good sheet's EXIT trailing edge (R143): D_del and the delivery record advance, the record leaves the path, SHEET_DELIVERED is raised with the trailing stamp, the references are released, and a DRAINING path with
an empty table enters IDLE. -/
def deliver (r : Record) (stack : Stack) (stamp : PathCount) (s : State) : State :=
  let q := r.seq
  let s1 := (s.onTrack fun t => { t with dDel := q + 1 }).leavePath q
  let s2 : State := { s1 with latch := { s1.latch with recordValid := true, recordSeq := q } }
  let s3 := s2.raiseAt (.sheetDelivered q stack r.copy.order.lastOfSet) stamp
  (s3.release r.copy.order).drainDone

/-- The divert reason: the spoil reason, or OUT_OF_SEQUENCE (R144). -/
def Record.divertReason (r : Record) : DivertReason :=
  match r.spoiled with
  | some w => .spoiled w
  | none => .outOfSequence

/-- A purged sheet's EXIT trailing edge (R144): the record leaves the path, its order copy enters the reprint list, SHEET_DIVERTED is raised with the trailing stamp. -/
def divert (r : Record) (stamp : PathCount) (s : State) : State :=
  let q := r.seq
  (((s.leavePath q).toReprint r.copy).raiseAt (.sheetDiverted q r.divertReason) stamp).drainDone

/-- The EXIT trailing edge of a record (R131, R143, R144); another occupancy of it and the stuck deadline bound to it stay
(DEDUCED, log 30). A record at EXIT is DECIDED (R123); one that is not, in a state
no run reaches, leaves as a purged one does (DESIGN CHOICE, log 19). -/
def exitTrailing (r : Record) (stamp : PathCount) (s : State) : State :=
  match r.phase with
  | .decided (.good k) => deliver r k stamp s
  | .decided .purge => divert r stamp s
  | .inPath => divert r stamp s
  | .feeding => divert r stamp s

/-! ## Leading edges (8.3) -/

/-- The frame table is asked to open a face (R40, R41, R136): with two faces open already it is declined, FETCH_FAULT is
set and the sheet is spoiled FETCH; a face without a frame is not asked for. -/
def openFor (q : Seq) (side : Side) (ref : Option FrameRef) (s : State) : State :=
  match ref with
  | none => s
  | some f =>
    if 2 ≤ s.frames.openFaces then
      (State.onTrack (Tracking.spoil q .fetch)) { s with mirror := { s.mirror with fetchFault := true } }
    else s.onFrames fun t => t.openFace f.frame ⟨q, side⟩

/-- The gate decision at the final FUSE leading edge (R139): good when the record is unspoiled and its sequence is
D_gate, which then advances; PURGE otherwise; the record becomes DECIDED and joins the gate queue. -/
def Tracking.decide (q : Seq) (t : Tracking) : Tracking :=
  match t.find q with
  | none => t
  | some r =>
    if r.spoiled = none ∧ q = t.dGate then
      ({ t.modify q (fun x => { x with phase := .decided (.good r.copy.order.dest) }) with
          dGate := t.dGate + 1 }).joinGate q
    else (t.modify q fun x => { x with phase := .decided .purge }).joinGate q

/-- The final FUSE visit: DIVERT_LOOP falls and the gate decision is taken (R128, R137, R139). -/
def finalFuse (q : Seq) (s : State) : State := s.onTrack fun t => Tracking.decide q { t with divertLoop := false }

/-- The action of a visit's leading edge (R128). -/
def leadingAction (r : Record) (v : Nat) (s : State) : State :=
  match v, r.copy.order.sides with
  | 1, _ => s.onTrack (Tracking.modify r.seq fun x => { x with phase := .inPath })
  | 2, _ => openFor r.seq .front r.copy.order.front s
  | 4, .simplex => finalFuse r.seq s
  | 4, .duplex => s.onTrack fun t => { t with divertLoop := true }
  | 6, .duplex => openFor r.seq .back r.copy.order.back s
  | 8, .duplex => finalFuse r.seq s
  | _, _ => s

/-- The visit after `v` on a route, none after the last (R124). -/
def visitAfter (sides : Sides) (v : Nat) : Option Nat := if (routeVisit sides (v + 1)).isSome then some (v + 1) else none

/-- A leading edge matches the head record (R127, R129): it leaves the arrival queue, its window-close deadline is
withdrawn, it becomes the occupant (with a stuck deadline when this is its only occupancy), its leading stamp and
next visit advance, it awaits the next visit, and the visit's action takes place. -/
def matchHead (sn : Sensor) (rest : List Arrival) (r : Record) (stamp : PathCount) (s : State) : State :=
  let q := r.seq
  let v := r.nextVisit.getD 0
  let next := visitAfter r.copy.order.sides v
  let o : Occupancy := ⟨q, v, stamp, r.launchCount, r.copy.order.length⟩
  let t1 := Tracking.withdraw .windowClose q (s.track.putQueue sn rest)
  let t2 := if (t1.occupancies o).isEmpty then
      t1.setDeadline ⟨s.setup.stuckDeadline stamp o.length, .stuck, sn, q⟩ else t1
  let t3 := Tracking.modify q (fun x => { x with leadStamp := some stamp, nextVisit := next })
    (t2.putOccupant sn (some o))
  let t4 := match next with
    | some n => t3.await s.setup q r.launchCount r.copy.order.sides n
    | none => t3
  leadingAction r v { s with track := t4 }

/-- A delivered leading edge is judged against the head of its sensor's arrival queue alone (R126). A head without a
record, in a state no run reaches, leaves the queue (DESIGN CHOICE, log 19). -/
def takeLeading (sn : Sensor) (stamp : PathCount) (s : State) : State :=
  match s.track.queueAt sn with
  | [] => s.jam .unexpected (some sn) none stamp
  | h :: rest =>
    if s.setup.classify stamp (s.setup.windowOpen h.expected) = .before then
      s.jam .early (some sn) (some h.seq) stamp
    else
      match s.track.find h.seq with
      | some r => matchHead sn rest r stamp s
      | none => s.onTrack fun t => t.putQueue sn rest

/-! ## Trailing edges (8.4) -/

/-- One occupancy is older than another: its leading stamp is before the other's; of equal stamps the lower visit is
the older (R129; DESIGN CHOICE, log 22). -/
def Occupancy.olderThan (a b : Occupancy) : Bool :=
  isBefore a.stamp b.stamp || (a.stamp == b.stamp && decide (a.visit ≤ b.visit))

/-- The oldest of a record's occupancies (R129). -/
def oldestOf : List (Sensor × Occupancy) → Option (Sensor × Occupancy)
  | [] => none
  | x :: xs =>
    match oldestOf xs with
    | none => some x
    | some y => if x.2.olderThan y.2 then some x else some y

/-- The stuck deadline after an occupancy at `sn` has ended (R129): withdrawn with the last; moved to the oldest that
remains when the ended one was the oldest; otherwise unchanged. R129 is followed in the same way for the occupancies that
remain of a record that has left the table, be they one or more (DEDUCED, log 30). -/
def Tracking.moveStuck (u : Setup) (sn : Sensor) (ended : Occupancy) (t : Tracking) : Tracking :=
  match oldestOf (t.occupancies ended) with
  | none => t.withdrawStuck sn ended.seq
  | some (sn', o) =>
    if ended.olderThan o then
      (t.withdrawStuck sn ended.seq).setDeadline ⟨u.stuckDeadline o.stamp o.length, .stuck, sn', ended.seq⟩
    else t

/-- The difference of two lengths. -/
def lengthGap (a b : Nat) : Nat := (a - b) + (b - a)

/-- The FEED trailing edge: the sheet is measured, and spoiled LENGTH when out of tolerance (R85, R131). -/
def measureSheet (r : Record) (o : Occupancy) (stamp : PathCount) (s : State) : State :=
  let m := (stamp - o.stamp).toNat
  let s1 := s.onTrack (Tracking.modify r.seq fun x => { x with measured := some m })
  if s.setup.tolerance < lengthGap m r.copy.order.length then s1.onTrack (Tracking.spoil r.seq .length) else s1

/-- The XFER trailing edge: the face is closed for imaging and its calendar slot freed (R136). -/
def transferDone (r : Record) (side : Side) (s : State) : State :=
  (s.onFrames fun f => f.closeFace ⟨r.seq, side⟩).freeFace ⟨r.seq, side⟩

/-- The action of an occupancy's trailing edge, by its sensor and visit (R131). -/
def trailingAction (sn : Sensor) (r : Record) (o : Occupancy) (stamp : PathCount) (s : State) : State :=
  match sn with
  | .feed => measureSheet r o stamp s
  | .xfer => transferDone r (if o.visit = 3 then .front else .back) s
  | .exit => exitTrailing r stamp s
  | .reg => s
  | .fuse => s
  | .loop => s

/-- A delivered trailing edge (R130): without an occupant a jam UNEXPECTED; with one the entry is emptied, the stuck
deadline handled, and the visit's action taken. A record that has left the table at EXIT has no action left: its faces were
closed and its slots freed as it left (R136; DEDUCED, log 30). -/
def takeTrailing (sn : Sensor) (stamp : PathCount) (s : State) : State :=
  match s.track.occupant sn with
  | none => s.jam .unexpected (some sn) none stamp
  | some o =>
    let s1 := s.onTrack fun t => (t.putOccupant sn none).moveStuck s.setup sn o
    match s.track.recordOf o with
    | some r => trailingAction sn r o stamp s1
    | none => s1

/-! ## Expiries (R117 to R119, R132, R133) -/

/-- A misfeed's retry number: the misfeed count plus one (R119). -/
def OrderCopy.retry (c : OrderCopy) : Nat := c.misfeeds + 1

/-- A misfeed (R118, R119): the record leaves the arrival queue, the calendar and the table; its order copy, the count
raised unless the retry number is above the pick retries, enters the reprint list; MISFEED is raised with the
deadline's value, then TRAY_STALLED when the tray stalls; a DRAINING path with an empty table enters IDLE. -/
def misfeed (r : Record) (value : PathCount) (s : State) : State :=
  let q := r.seq
  let tray := r.copy.order.tray
  let retry := r.copy.retry
  let s1 := (s.onTrack fun t =>
    (t.putQueue .feed ((t.queueAt .feed).filter fun a => a.seq != q)).remove q).freeSheet q
  if retry ≤ s.setup.pickRetries then
    ((s1.toReprint { r.copy with misfeeds := retry }).raiseAt (.misfeed q tray retry) value).drainDone
  else
    let s2 := (s1.toReprint r.copy).raiseAt (.misfeed q tray retry) value
    let s3 : State := { s2 with launch := { s2.launch with stalled := s2.launch.stalled.set tray true } }
    (s3.raise (.trayStalled tray q)).drainDone

/-- An expiry: the deadline leaves the set (R79); a window close on FEED is a misfeed, on any other sensor a jam LATE
(R133), a stuck deadline a jam STUCK (R132). Expiries are taken in STARTING, RUNNING and DRAINING (R117). -/
def takeExpiry (d : Deadline) (s : State) : State :=
  let s1 := s.onTrack fun t => { t with deadlines := t.deadlines.erase d }
  if s.driven then
    match d.kind with
    | .stuck => s1.jam .stuck (some d.sensor) (some d.owner) d.value
    | .windowClose =>
      if d.sensor = .feed then
        match s.track.find d.owner with
        | some r => misfeed r d.value s1
        | none => s1
      else s1.jam .late (some d.sensor) (some d.owner) d.value
  else s1

end Sys2Proof.Machine
end

