-- ==== Sys2Proof/Machine/Scheduler.lean ====
section
/-! DEFINITION. The launch scheduler (spec/07_launch_scheduling.md): ageing, the candidate, the launch test, the launch,
and the taking of a pitch tick. -/

namespace Sys2Proof.Machine

/-- At the pitch tick numbered last exit slot + 64 both values become none (R108). -/
def Launch.age (n : PitchNo) (l : Launch) : Launch :=
  match l.lastExit with
  | some e => if n = e + 64 then { l with lastExit := none, lastDest := none } else l
  | none => l

/-- Where the candidate comes from (R109). -/
inductive Candidate where
  | reprint (c : OrderCopy)
  | pending (slot : Nat) (o : Order)
deriving DecidableEq, Repr

/-- The candidate's order copy; a pending order has a misfeed count of 0 (R62). -/
def Candidate.copy : Candidate → OrderCopy
  | .reprint c => c
  | .pending _ o => ⟨o, 0⟩

/-- The one candidate (R109): the head of the reprint list; else, when no record is marked diverted, the head of the
pending queue. -/
def State.candidate (s : State) : Option Candidate :=
  match s.reprint with
  | c :: _ => some (.reprint c)
  | [] =>
    match s.orders.queue with
    | k :: _ => if s.track.table.any Record.diverted then none else some (.pending k (s.orders.orderAt k))
    | [] => none

/-- The calendar slot of a transfer slot is free (R105). -/
def Launch.slotFree (l : Launch) (m : PitchNo) : Bool := (l.calendar[calendarIndex m]?.getD none).isNone

/-- The launch test, conditions (a) to (g), for an order at pitch `n` (R110). -/
def launchTest (n : PitchNo) (o : Order) (s : State) : Bool :=
  let e := s.setup.exitSlot n o.sides
  decide (s.track.table.length < 16) &&
  (!s.pins.trayEmpty[o.tray] && !s.launch.stalled[o.tray]) &&
  !s.pins.stackFull o.dest &&
  s.launch.slotFree (s.setup.frontSlot n) &&
  (match s.setup.backSlot n o.sides with
    | some b => s.launch.slotFree b
    | none => true) &&
  (match s.launch.lastExit with
    | none => true
    | some x => isAfter e x) &&
  (match s.launch.lastExit with
    | none => true
    | some x => s.launch.lastDest == some o.dest || isAtOrAfter e (x + BitVec.ofNat 16 (1 + s.setup.gateTravel)))

/-- Reserve a calendar slot for a face (R105). -/
def Launch.reserve (m : PitchNo) (face : Face) (l : Launch) : Launch :=
  { l with calendar := l.calendar.setIfInBounds (calendarIndex m) (some face) }

/-- The order is taken from the collection it waited in (R62, R114). -/
def State.takeCandidate (c : Candidate) (s : State) : State :=
  match c with
  | .reprint _ => { s with reprint := s.reprint.tail }
  | .pending k o =>
    { s with orders :=
        { s.orders.empty k with queue := s.orders.queue.tail, launched := positionAfter o } }

/-- The record a launch at pitch `n` and launch count `c` makes (R114). -/
def newRecord (u : Setup) (n : PitchNo) (c : PathCount) (copy : OrderCopy) : Record where
  copy := copy
  launchPitch := n
  launchCount := c
  frontSlot := u.frontSlot n
  backSlot := u.backSlot n copy.order.sides
  exitSlot := u.exitSlot n copy.order.sides
  nextVisit := some 1
  leadStamp := none
  measured := none
  spoiled := none
  phase := .feeding

/-- Reserve the calendar slots of a launched record (R105). -/
def Launch.reserveFor (r : Record) (l : Launch) : Launch :=
  let l1 := l.reserve r.frontSlot ⟨r.seq, .front⟩
  match r.backSlot with
  | some b => l1.reserve b ⟨r.seq, .back⟩
  | none => l1

/-- The launch of a candidate at pitch `n`, path count `c`, in one acceptance (R114). -/
def launch (cand : Candidate) (n : PitchNo) (c : PathCount) (s : State) : State :=
  let r := newRecord s.setup n c cand.copy
  let o := cand.copy.order
  let s1 := s.takeCandidate cand
  { s1 with
    track := Tracking.await s.setup o.seq c o.sides 1 { s1.track with table := s1.track.table ++ [r] }
    launch := { s1.launch.reserveFor r with lastExit := some r.exitSlot, lastDest := some o.dest }
    seqr := if s.track.table.isEmpty then { s1.seqr with idleCtr := 0 } else s1.seqr }

/-- A launch opportunity: the candidate is launched when it passes the test (R109, R110). -/
def launchOpportunity (p : PitchTick) (s : State) : State :=
  match s.candidate with
  | some c => if launchTest p.number c.copy.order s then launch c p.number p.count s else s
  | none => s

/-- A pitch tick is taken (R70, R91, R108): ageing first; in STARTING it sets the motion-seen flag, and with FUSER_READY
high the path enters RUNNING; it is a launch opportunity when the path was RUNNING as it occurred (and still is: a
jam taken first leaves nothing to launch into, R92). -/
def takePitchTick (p : PitchTick) (s : State) : State :=
  let s1 : State := { s with clock := { s.clock with tick := none }, launch := s.launch.age p.number }
  match s.seqr.path with
  | .starting =>
    let s2 := s1.onSeqr fun q => { q with motionSeen := true }
    if s.pins.fuserReady then s2.enterRunning else s2
  | .running => if p.running then launchOpportunity p s1 else s1
  | _ => s1

end Sys2Proof.Machine
end

