-- ==== Sys2Proof/Machine/Settle.lean ====
section
/-! DEFINITION. What has occurred inside the part and is still to be taken, one acceptance at a time: waiting writes that
can be taken (R8), edges (R76), due deadlines (R79 to R81), the pitch tick (R70), and the counters at their limits
(R92, R93, R98). A command that names one of them takes it; every other command first completes all of them (DEDUCED, log 1). -/

namespace Sys2Proof.Machine

/-- A happening that is still to be taken. -/
inductive Happening where
  | write (w : WriteReq)
  | edge (e : Edge)
  | expiry (d : Deadline)
  | pitch (p : PitchTick)
  | startFail
  | stall
  | idleExpiry
deriving DecidableEq, Repr

/-! ## Waiting writes (R8) -/

/-- The first waiting write that satisfies `want` and can be taken, `older` standing before the list. -/
def takeableFrom (s : State) (want : WriteReq → Bool) : List WriteReq → List WriteReq → Option WriteReq
  | _, [] => none
  | older, w :: ws => if want w && s.canTake older w then some w else takeableFrom s want (older ++ [w]) ws

/-- The oldest waiting write that can be taken, of those that satisfy `want`. -/
def State.takeable (s : State) (want : WriteReq → Bool) : Option WriteReq := takeableFrom s want [] s.bus.waiting

/-! ## Edges and expiries (R78 to R81) -/

/-- The oldest edge of a sensor that is not yet delivered; the edges of one sensor follow in order (R74). -/
def Clock.nextEdge (c : Clock) (sn : Sensor) : Option Edge := c.edges.find? fun e => e.sensor == sn

/-- A deadline of the edge's sensor whose value is at or before the edge's stamp comes first (R81). -/
def State.edgeBlocked (s : State) (e : Edge) : Bool :=
  s.track.deadlines.any fun d => d.sensor == e.sensor && isAtOrAfter e.stamp d.value

/-- The deadline is due: the path count is at or after its value (R78, R79). -/
def State.due (s : State) (d : Deadline) : Bool := isAtOrAfter s.clock.pathCount d.value

/-- The sensor's filter holds a pending change stamped before the deadline's value (R80). -/
def State.deferred (s : State) (d : Deadline) : Bool :=
  match (s.clock.filters[d.sensor.idx]).change with
  | some p => isBefore p.stamp d.value
  | none => false

/-- An accepted edge of the sensor stamped before the deadline's value is still to be delivered; it comes first (R80, R81). -/
def State.edgeFirst (s : State) (d : Deadline) : Bool :=
  s.clock.edges.any fun e => e.sensor == d.sensor && isBefore e.stamp d.value

/-- The deadline expires now (R79, R80, R81). -/
def State.expires (s : State) (d : Deadline) : Bool := s.due d && !s.deferred d && !s.edgeFirst d

/-- The edge of a sensor that can be delivered now, if it has this direction. -/
def State.edgeNow (s : State) (sn : Sensor) (leading : Bool) : Option Edge :=
  match s.clock.nextEdge sn with
  | some e => if e.leading = leading ∧ s.edgeBlocked e = false then some e else none
  | none => none

/-- The edge leaves the undelivered ones and reaches the tracking table in STARTING, RUNNING and DRAINING; in any other
state it is not delivered (R76, R134). -/
def takeEdge (e : Edge) (s : State) : State :=
  let s1 : State := { s with clock := { s.clock with edges := s.clock.edges.erase e } }
  if s.driven then if e.leading then takeLeading e.sensor e.stamp s1 else takeTrailing e.sensor e.stamp s1
  else s1

/-! ## Counters at their limits -/

/-- The start counter has reached the start limit in STARTING (R92). -/
def State.startFails (s : State) : Bool := s.seqr.path == .starting && decide (s.setup.startLimit ≤ s.seqr.startCtr)

/-- The stall counter has reached the stall limit while the transport is driven (R93). -/
def State.stalls (s : State) : Bool := s.driven && decide (s.setup.stallLimit ≤ s.seqr.stallCtr)

/-- The idle counter has reached a nonzero idle limit in RUNNING with nothing to do (R98). -/
def State.idleExpires (s : State) : Bool :=
  s.seqr.path == .running && s.nothingToDo && decide (0 < s.setup.idleLimit ∧ s.setup.idleLimit ≤ s.seqr.idleCtr)

/-! ## Completing what has occurred -/

/-- Any deliverable edge of a sensor. -/
def State.anyEdge (s : State) (sn : Sensor) : Option Edge :=
  match s.edgeNow sn true with
  | some e => some e
  | none => s.edgeNow sn false

/-- The next happening to take when the commands leave the order open; the spec gives none between different ones, and
every order is legal (R79, R107, R145; DESIGN CHOICE, log 2). -/
def State.outstanding (s : State) : Option Happening :=
  match s.takeable fun _ => true with
  | some w => some (.write w)
  | none =>
    match Sensor.all.findSome? s.anyEdge with
    | some e => some (.edge e)
    | none =>
      match s.track.deadlines.find? s.expires with
      | some d => some (.expiry d)
      | none =>
        match s.clock.tick with
        | some p => some (.pitch p)
        | none =>
          if s.startFails then some .startFail
          else if s.stalls then some .stall
          else if s.idleExpires then some .idleExpiry
          else none

/-- Take one happening. -/
def take (h : Happening) (s : State) : State :=
  match h with
  | .write w => takeWaiting w s
  | .edge e => takeEdge e s
  | .expiry d => takeExpiry d s
  | .pitch p => takePitchTick p s
  | .startFail => s.jamHere .startFail
  | .stall => s.jamHere .stall
  | .idleExpiry => s.enterStopped .standby

/-- Take happenings one after another, at most `fuel` of them. -/
def settleFuel : Nat → State → State
  | 0, s => s
  | fuel + 1, s =>
    match s.outstanding with
    | none => s
    | some h => settleFuel fuel (take h s)

/-- How many happenings can follow from a state: a waiting write, a deadline and each limit count once; a pitch tick can
set one deadline, and an edge two (R84, R127). -/
def State.fuel (s : State) : Nat :=
  s.bus.waiting.length + 3 * s.clock.edges.length + s.track.deadlines.length +
    (if s.clock.tick.isSome then 2 else 0) + 3

/-- Everything that has occurred is completed; what is due happens at once (R8, R76, R79, R92, R93, R98; DEDUCED, log 1). -/
def State.settle (s : State) : State := settleFuel s.fuel s

end Sys2Proof.Machine
end

