-- ==== Sys2Proof/Machine/BusCommands.lean ====
section
/-! DEFINITION. The meanings of the bus and memory-port commands (R1 to R18). -/

namespace Sys2Proof.Machine

/-- A bus request of a master (R1, R24): what is due is completed first (DEDUCED, log 1); a master that is held cannot present
another (DESIGN CHOICE, log 4); during a reset period the request is held until the period ends; otherwise it is taken. -/
def busRequest (m : Master) (q : Request) (f : State → State) (s : State) : Host.Outcome State Fault Refusal :=
  let u := s.settle
  if u.busHeld m then .fault (.masterHeld m)
  else if u.inReset then
    .next (State.hold m (u.onBus fun b => { b with heldRequests := b.heldRequests ++ [q] }))
  else .next (f u)

/-- BUS_WRITE (R4). -/
def execBusWrite (w : WriteReq) (s : State) : Host.Outcome State Fault Refusal :=
  busRequest w.master (.write w) (presentWrite w) s

/-- BUS_READ (R4). -/
def execBusRead (r : ReadReq) (s : State) : Host.Outcome State Fault Refusal :=
  busRequest r.master (.read r) (presentRead r) s

/-- WAITING_WRITE_TAKEN (R8): the master's waiting write is taken when it can be. -/
def execWaitingWriteTaken (m : Master) (s : State) : Host.Outcome State Fault Refusal :=
  match s.takeable fun w => w.master == m with
  | some w => .next (takeWaiting w s)
  | none => .next s

/-- MEMORY_ISSUE (R11, R12): the free port issues when the command comes (DEDUCED, log 9). -/
def execMemoryIssue (s : State) : Host.Outcome State Fault Refusal := .next (issueNext s.settle)

/-- READ_RESPONSE (R13, R15). -/
def execReadResponse (data : Line) (s : State) : Host.Outcome State Fault Refusal :=
  .next (takeReadResponse data s.settle)

/-- READ_ERROR (R13, R45). -/
def execReadError (s : State) : Host.Outcome State Fault Refusal := .next (takeReadError s.settle)

/-- WRITE_RESPONSE (R11, R15). -/
def execWriteResponse (s : State) : Host.Outcome State Fault Refusal := .next (takeWriteResponse s.settle)

/-- MEMORY_FAULT (R14). -/
def execMemoryFault (s : State) : Host.Outcome State Fault Refusal := .next (takeWriteError s.settle)

/-- The write of SETUP_WRITE: line `block` of bytes 0 to 255. -/
def setupRequest (m : Master) (block : Fin 8) (en : Enables) (data : Line) : WriteReq :=
  ⟨m, BitVec.ofNat 27 block.val, en, data⟩

/-- SETUP_WRITE (R16, R21). -/
def execSetupWrite (m : Master) (block : Fin 8) (en : Enables) (data : Line) (s : State) :
    Host.Outcome State Fault Refusal :=
  let w := setupRequest m block en data
  busRequest m (.write w) (presentWrite w) s

/-- The write of ARM: line 7, with all four bytes of the arm word (bytes 24 to 27) enabled and carrying the arm code
(R17, 11.1). -/
def armRequest (m : Master) (en : Enables) (data : Line) : WriteReq :=
  ⟨m, 7, en ||| 0x0F000000#32, mergeLine data (0x34100001#256 <<< 192) 0x0F000000#32⟩

/-- ARM (R17, R18, R20, R21). -/
def execArm (m : Master) (en : Enables) (data : Line) (s : State) : Host.Outcome State Fault Refusal :=
  let w := armRequest m en data
  busRequest m (.write w) (presentWrite w) s

end Sys2Proof.Machine
end

