-- ==== Sys2Proof/Machine/InputCommands.lean ====
section
/-! DEFINITION. The meanings of the input-line commands (R91, R94, R111, R172). An input's level is kept in every state; what
follows from a change follows only while the part is armed and out of reset (R24, R164). -/

namespace Sys2Proof.Machine

/-- Apply a change to the input levels. -/
def State.onPins (g : Pins → Pins) (s : State) : State := { s with pins := g s.pins }

/-- COVER_CLOSED_FALL (R94): in STARTING, RUNNING or DRAINING the path jams with code COVER; COVER_OPEN follows the level
(R172). -/
def execCoverClosedFall (s : State) : Host.Outcome State Fault Refusal :=
  let u := s.settle.onPins fun p => { p with coverClosed := false }
  if u.inReset then .next u else .next (u.jamHere .cover)

/-- COVER_CLOSED_RISE (R94, R172). -/
def execCoverClosedRise (s : State) : Host.Outcome State Fault Refusal :=
  .next (s.settle.onPins fun p => { p with coverClosed := true })

/-- FUSER_READY_RISE (R91): in STARTING with the motion-seen flag set the path enters RUNNING. -/
def execFuserReadyRise (s : State) : Host.Outcome State Fault Refusal :=
  let u := s.settle.onPins fun p => { p with fuserReady := true }
  if u.inReset = false ∧ u.seqr.path = .starting ∧ u.seqr.motionSeen = true then .next u.enterRunning else .next u

/-- FUSER_READY_FALL (R91): the entry to RUNNING waits for the next rise; a flag already set stays set. -/
def execFuserReadyFall (s : State) : Host.Outcome State Fault Refusal :=
  .next (s.settle.onPins fun p => { p with fuserReady := false })

/-- TRAY_EMPTY_CHANGE (R111, R172). -/
def execTrayEmptyChange (tray : Tray) (level : Bool) (s : State) : Host.Outcome State Fault Refusal :=
  .next (s.settle.onPins fun p => { p with trayEmpty := p.trayEmpty.set tray level })

/-- STACK_FULL_CHANGE (R111, R172). -/
def execStackFullChange (stack : Stack) (level : Bool) (s : State) : Host.Outcome State Fault Refusal :=
  .next (s.settle.onPins fun p =>
    match stack with
    | .a => { p with stackFullA := level }
    | .b => { p with stackFullB := level })

end Sys2Proof.Machine
end

