-- ==== Sys2Proof/Machine/MotionCommands.lean ====
section
/-! DEFINITION. The meanings of the motion commands: ENC and TICK, and the happenings that follow from them (R68 to R81,
R92, R93, R98, R117, R126, R130, R132, R133). -/

namespace Sys2Proof.Machine

/-- ENC and TICK are used from the successful arm on, outside reset periods (R24, R68, R71). -/
def State.live (s : State) : Bool := !s.inReset && s.armed

/-- One pulse of driven travel (R69): the pitch remainder rises, or at P becomes 0 with the pitch number advanced and a pitch
tick produced, which carries the new number and the path count after the pulse (R70). -/
def Clock.drivenPulse (pitch : Nat) (running : Bool) (c : Clock) : Clock :=
  if c.pitchRem + 1 < pitch then { c with pitchRem := c.pitchRem + 1 }
  else
    { c with pitchRem := 0, pitchNo := c.pitchNo + 1, tick := some ⟨c.pitchNo + 1, c.pathCount, running⟩ }

/-- One encoder pulse (R68, R69, R93). -/
def encPulse (s : State) : State :=
  let c := { s.clock with pathCount := s.clock.pathCount + 1 }
  { s with
    clock := if s.driven then c.drivenPulse s.setup.pitch (s.seqr.path == .running) else c
    seqr := { s.seqr with stallCtr := 0 } }

/-- ENC_PULSE (R68). -/
def execEncPulse (s : State) : Host.Outcome State Fault Refusal :=
  let u := s.settle
  if u.live then .next (encPulse u) else .next u

/-- PITCH_TICK (R70): the pitch tick that the last pulse produced is taken. -/
def execPitchTick (s : State) : Host.Outcome State Fault Refusal :=
  match s.clock.tick with
  | some p => .next (takePitchTick p s)
  | none => .next s

/-- One sample of one filter with filter length `f` at path count `c` (R74, R75): the filter after it, and the stamp of the
change it accepts. -/
def Filter.sample (f : Nat) (c : PathCount) (level : Bool) (x : Filter) : Filter × Option PathCount :=
  if level = x.level then ({ x with change := none }, none)
  else
    match x.change with
    | none => if f ≤ 1 then (⟨level, none⟩, some c) else ({ x with change := some ⟨1, c⟩ }, none)
    | some p =>
      if f ≤ p.count + 1 then (⟨level, none⟩, some p.stamp)
      else ({ x with change := some ⟨p.count + 1, p.stamp⟩ }, none)

/-- The sample of a sensor's filter at this tick. -/
def State.sampleOf (s : State) (l : SensorLevels) (sn : Sensor) : Filter × Option PathCount :=
  Filter.sample s.setup.filterLength s.clock.pathCount (l.get sn) s.clock.filters[sn.idx]

/-- The edge events of this tick, in the order of the sensors (R76). -/
def State.tickEdges (s : State) (l : SensorLevels) : List Edge :=
  Sensor.all.filterMap fun sn => (s.sampleOf l sn).2.map fun st => ⟨sn, l.get sn, st⟩

/-- The counters at a tick (R92, R93, R98), each up to its limit (R87). -/
def State.tickCounters (s : State) : Sequencer :=
  { s.seqr with
    startCtr := if s.seqr.path = .starting then min (s.seqr.startCtr + 1) s.setup.startLimit else s.seqr.startCtr
    stallCtr := if s.driven then min (s.seqr.stallCtr + 1) s.setup.stallLimit else s.seqr.stallCtr
    idleCtr :=
      if s.seqr.path = .running ∧ s.nothingToDo = true ∧ s.setup.idleLimit ≠ 0 then
        min (s.seqr.idleCtr + 1) s.setup.idleLimit
      else s.seqr.idleCtr }

/-- One reference tick (R71, R74 to R76): every filter samples; the accepted changes are edge events to deliver in STARTING,
RUNNING and DRAINING and are lost in the other states; the counters advance. -/
def refTick (l : SensorLevels) (s : State) : State :=
  { s with
    clock :=
      { s.clock with
        filters := #v[(s.sampleOf l .feed).1, (s.sampleOf l .reg).1, (s.sampleOf l .xfer).1,
          (s.sampleOf l .fuse).1, (s.sampleOf l .loop).1, (s.sampleOf l .exit).1]
        edges := if s.driven then s.clock.edges ++ s.tickEdges l else s.clock.edges }
    seqr := s.tickCounters }

/-- TICK (R71). -/
def execTick (levels : SensorLevels) (s : State) : Host.Outcome State Fault Refusal :=
  let u := s.settle
  if u.live then .next (refTick levels u) else .next u

/-- LEADING_EDGE (R126). -/
def execLeadingEdge (sensor : Sensor) (s : State) : Host.Outcome State Fault Refusal :=
  match s.edgeNow sensor true with
  | some e => .next (takeEdge e s)
  | none => .next s

/-- TRAILING_EDGE (R130). -/
def execTrailingEdge (sensor : Sensor) (s : State) : Host.Outcome State Fault Refusal :=
  match s.edgeNow sensor false with
  | some e => .next (takeEdge e s)
  | none => .next s

/-- START_FAIL (R92). -/
def execStartFail (s : State) : Host.Outcome State Fault Refusal :=
  if s.startFails then .next (s.jamHere .startFail) else .next s

/-- STALL (R93). -/
def execStall (s : State) : Host.Outcome State Fault Refusal :=
  if s.stalls then .next (s.jamHere .stall) else .next s

/-- IDLE_EXPIRY (R98). -/
def execIdleExpiry (s : State) : Host.Outcome State Fault Refusal :=
  if s.idleExpires then .next (s.enterStopped .standby) else .next s

/-- The expiring deadline of a record that satisfies `want`. -/
def State.expiring (s : State) (owner : Seq) (want : Deadline → Bool) : Option Deadline :=
  s.track.deadlines.find? fun d => d.owner == owner && want d && s.expires d

/-- MISFEED (R117, R118): the FEED window-close deadline of this record expires. -/
def execMisfeed (owner : Seq) (s : State) : Host.Outcome State Fault Refusal :=
  match s.expiring owner fun d => d.kind == .windowClose && d.sensor == .feed with
  | some d => .next (takeExpiry d s)
  | none => .next s

/-- LATE (R133): the window-close deadline of this record on a sensor other than FEED expires. -/
def execLate (owner : Seq) (s : State) : Host.Outcome State Fault Refusal :=
  match s.expiring owner fun d => d.kind == .windowClose && d.sensor != .feed with
  | some d => .next (takeExpiry d s)
  | none => .next s

/-- STUCK (R132): the stuck deadline of this record expires. -/
def execStuck (owner : Seq) (s : State) : Host.Outcome State Fault Refusal :=
  match s.expiring owner fun d => d.kind == .stuck with
  | some d => .next (takeExpiry d s)
  | none => .next s

end Sys2Proof.Machine
end

