-- ==== Sys2Proof/Machine/RequestCommands.lean ====
section
/-! DEFINITION. The meanings of the request commands: the writes to the mirror's request words (R89, R166 to R170, R176).
Each is the same write that BUS_WRITE would present at the word's address. -/

namespace Sys2Proof.Machine

/-- A write to a mirror line (R4, R166): what is due is completed first (DEDUCED, log 1); a held master cannot present it (DESIGN CHOICE, log 4);
while UNCONFIGURED or in reset no mirror exists and nothing is taken (R89, R164; DESIGN CHOICE, log 3); by master 3 it is a guard
abort; otherwise it is taken by the mirror block and completed in the same acceptance. -/
def mirrorCommand (m : Master) (f : State → State) (s : State) : Host.Outcome State Fault Refusal :=
  let u := s.settle
  if u.busHeld m then .fault (.masterHeld m)
  else if u.inReset || !u.armed then .next u
  else if m = .fetcher then .next ((u.guardAbort .none m).answer m .abort)
  else .next ((f u).answer m .completion)

/-- A write to the mirror with no enabled byte: completed at once, no state changed, by any master (R1). -/
def mirrorEmpty (m : Master) (s : State) : Host.Outcome State Fault Refusal :=
  let u := s.settle
  if u.busHeld m then .fault (.masterHeld m)
  else if u.inReset || !u.armed then .next u
  else .next (u.answer m .completion)

/-- RUN (R167, R90): request code 1. -/
def execRun (m : Master) (argument toggleByte unused : Byte) (s : State) : Host.Outcome State Fault Refusal :=
  mirrorCommand m (controlWord 1 argument toggleByte unused) s

/-- DRAIN (R167, R97): request code 2. -/
def execDrain (m : Master) (argument toggleByte unused : Byte) (s : State) : Host.Outcome State Fault Refusal :=
  mirrorCommand m (controlWord 2 argument toggleByte unused) s

/-- HALT (R167, R95): request code 3. -/
def execHalt (m : Master) (argument toggleByte unused : Byte) (s : State) : Host.Outcome State Fault Refusal :=
  mirrorCommand m (controlWord 3 argument toggleByte unused) s

/-- RESUME (R167, R101): request code 4. -/
def execResume (m : Master) (argument toggleByte unused : Byte) (s : State) : Host.Outcome State Fault Refusal :=
  mirrorCommand m (controlWord 4 argument toggleByte unused) s

/-- STANDBY (R167, R99): request code 5. -/
def execStandby (m : Master) (argument toggleByte unused : Byte) (s : State) : Host.Outcome State Fault Refusal :=
  mirrorCommand m (controlWord 5 argument toggleByte unused) s

/-- CANCEL_PENDING (R167, R63): request code 6. -/
def execCancelPending (m : Master) (argument toggleByte unused : Byte) (s : State) : Host.Outcome State Fault Refusal :=
  mirrorCommand m (controlWord 6 argument toggleByte unused) s

/-- PATH_RESET (R167, R102): request code 7. -/
def execPathReset (m : Master) (argument toggleByte unused : Byte) (s : State) : Host.Outcome State Fault Refusal :=
  mirrorCommand m (controlWord 7 argument toggleByte unused) s

/-- CLEAR_TRAY_STALL (R167, R120): request code 8. -/
def execClearTrayStall (m : Master) (argument toggleByte unused : Byte) (s : State) : Host.Outcome State Fault Refusal :=
  mirrorCommand m (controlWord 8 argument toggleByte unused) s

/-- RELEASE_FRAME (R167, R39): request code 9. -/
def execReleaseFrame (m : Master) (argument toggleByte unused : Byte) (s : State) : Host.Outcome State Fault Refusal :=
  mirrorCommand m (controlWord 9 argument toggleByte unused) s

/-- CLEAR_STANDING (R167, R169): request code 10. -/
def execClearStanding (m : Master) (argument toggleByte unused : Byte) (s : State) : Host.Outcome State Fault Refusal :=
  mirrorCommand m (controlWord 10 argument toggleByte unused) s

/-- UNKNOWN_REQUEST (R167, R176): the code as written. -/
def execUnknownRequest (m : Master) (code argument toggleByte unused : Byte) (s : State) :
    Host.Outcome State Fault Refusal :=
  mirrorCommand m (controlWord code argument toggleByte unused) s

/-- EVENTS_TAKEN (R170). -/
def execEventsTaken (m : Master) (n : Byte) (rest : BitVec 24) (s : State) : Host.Outcome State Fault Refusal :=
  mirrorCommand m (eventsTakenWord n rest) s

/-- CLEAR_STANDING_WORD (R169). -/
def execClearStandingWord (m : Master) (set : Byte) (rest : BitVec 24) (s : State) :
    Host.Outcome State Fault Refusal :=
  mirrorCommand m (clearStandingWord set rest) s

/-- MIRROR_WRITE_IGNORED (R166): a mirror write that covers no request word in full is completed and ignored. With no
enabled byte it is the empty request of R1, which is completed whichever master presents it. -/
def execMirrorWriteIgnored (m : Master) (block : Fin 128) (en : Enables) (data : Line) (s : State) :
    Host.Outcome State Fault Refusal :=
  if en = 0 then mirrorEmpty m s else mirrorCommand m (mirrorWrite block.val en data) s

end Sys2Proof.Machine
end

