-- ==== Sys2Proof/Machine/ResetCommands.lean ====
section
/-! DEFINITION. The meanings of the hardware-reset commands (R22 to R24). -/

namespace Sys2Proof.Machine

/-- A request presented during the reset period is taken as a new request once the period has ended (R24). -/
def takeHeld (s : State) (q : Request) : State :=
  match q with
  | .write w => presentWrite w s
  | .read r => presentRead r s

/-- POWER_ON_RESET (R22): the rise of POWER_GOOD, whatever the level of RESET_N and of POWER_GOOD before
(DESIGN CHOICE, log 29). With RESET_N high the period ends at once. -/
def execPowerOnReset (resetN : Bool) (s : State) : Host.Outcome State Fault Refusal :=
  .next { s.powerOnValues with pins := { s.pins with powerGood := true, resetN := resetN } }

/-- POWER_LOSS (R22): while POWER_GOOD is low the part holds no state (DESIGN CHOICE, log 12). -/
def execPowerLoss (s : State) : Host.Outcome State Fault Refusal :=
  .next { s.powerOnValues with pins := { s.pins with powerGood := false } }

/-- LINE_RESET (R23): RESET_N falls while POWER_GOOD is high. With POWER_GOOD low, or RESET_N low already, there is no
line reset (DESIGN CHOICE, log 3). -/
def execLineReset (s : State) : Host.Outcome State Fault Refusal :=
  let u := s.settle
  if u.inReset then .next u else .next { u.lineResetValues with pins := { u.pins with resetN := false } }

/-- RESET_PERIOD_END (R24): RESET_N rises while POWER_GOOD is high; the part is UNCONFIGURED, and the requests presented
during the period are taken in the order of their presentation (DESIGN CHOICE, log 11). -/
def execResetPeriodEnd (s : State) : Host.Outcome State Fault Refusal :=
  let u := s.settle
  if u.pins.powerGood && !u.pins.resetN then
    .next (u.bus.heldRequests.foldl takeHeld
      { u with pins := { u.pins with resetN := true }, bus := { u.bus with heldRequests := [] } })
  else .next u

end Sys2Proof.Machine
end

