-- ==== Sys2Proof/Machine/Dispatch.lean ====
section
/-! DEFINITION. exec: one arm per command, in the order of spec/opcode_table.json. -/

namespace Sys2Proof.Machine

def exec (i : Instr) (s : State) : Host.Outcome State Fault Refusal :=
  match i with
  | .powerOnReset resetN => Sys2Proof.Machine.execPowerOnReset resetN s
  | .powerLoss => Sys2Proof.Machine.execPowerLoss s
  | .lineReset => Sys2Proof.Machine.execLineReset s
  | .resetPeriodEnd => Sys2Proof.Machine.execResetPeriodEnd s
  | .busWrite w => Sys2Proof.Machine.execBusWrite w s
  | .busRead r => Sys2Proof.Machine.execBusRead r s
  | .waitingWriteTaken m => Sys2Proof.Machine.execWaitingWriteTaken m s
  | .memoryIssue => Sys2Proof.Machine.execMemoryIssue s
  | .readResponse data => Sys2Proof.Machine.execReadResponse data s
  | .readError => Sys2Proof.Machine.execReadError s
  | .writeResponse => Sys2Proof.Machine.execWriteResponse s
  | .memoryFault => Sys2Proof.Machine.execMemoryFault s
  | .setupWrite m block enables data => Sys2Proof.Machine.execSetupWrite m block enables data s
  | .arm m enables data => Sys2Proof.Machine.execArm m enables data s
  | .run m argument toggleByte unused => Sys2Proof.Machine.execRun m argument toggleByte unused s
  | .drain m argument toggleByte unused => Sys2Proof.Machine.execDrain m argument toggleByte unused s
  | .halt m argument toggleByte unused => Sys2Proof.Machine.execHalt m argument toggleByte unused s
  | .resume m argument toggleByte unused => Sys2Proof.Machine.execResume m argument toggleByte unused s
  | .standby m argument toggleByte unused => Sys2Proof.Machine.execStandby m argument toggleByte unused s
  | .cancelPending m argument toggleByte unused => Sys2Proof.Machine.execCancelPending m argument toggleByte unused s
  | .pathReset m argument toggleByte unused => Sys2Proof.Machine.execPathReset m argument toggleByte unused s
  | .clearTrayStall m argument toggleByte unused => Sys2Proof.Machine.execClearTrayStall m argument toggleByte unused s
  | .releaseFrame m argument toggleByte unused => Sys2Proof.Machine.execReleaseFrame m argument toggleByte unused s
  | .clearStanding m argument toggleByte unused => Sys2Proof.Machine.execClearStanding m argument toggleByte unused s
  | .unknownRequest m code argument toggleByte unused => Sys2Proof.Machine.execUnknownRequest m code argument toggleByte unused s
  | .eventsTaken m n rest => Sys2Proof.Machine.execEventsTaken m n rest s
  | .clearStandingWord m set rest => Sys2Proof.Machine.execClearStandingWord m set rest s
  | .mirrorWriteIgnored m block enables data => Sys2Proof.Machine.execMirrorWriteIgnored m block enables data s
  | .encPulse => Sys2Proof.Machine.execEncPulse s
  | .pitchTick => Sys2Proof.Machine.execPitchTick s
  | .tick levels => Sys2Proof.Machine.execTick levels s
  | .leadingEdge sensor => Sys2Proof.Machine.execLeadingEdge sensor s
  | .trailingEdge sensor => Sys2Proof.Machine.execTrailingEdge sensor s
  | .startFail => Sys2Proof.Machine.execStartFail s
  | .stall => Sys2Proof.Machine.execStall s
  | .idleExpiry => Sys2Proof.Machine.execIdleExpiry s
  | .misfeed owner => Sys2Proof.Machine.execMisfeed owner s
  | .late owner => Sys2Proof.Machine.execLate owner s
  | .stuck owner => Sys2Proof.Machine.execStuck owner s
  | .coverClosedFall => Sys2Proof.Machine.execCoverClosedFall s
  | .coverClosedRise => Sys2Proof.Machine.execCoverClosedRise s
  | .fuserReadyRise => Sys2Proof.Machine.execFuserReadyRise s
  | .trayEmptyChange tray level => Sys2Proof.Machine.execTrayEmptyChange tray level s
  | .stackFullChange stack level => Sys2Proof.Machine.execStackFullChange stack level s
  | .fuserReadyFall => Sys2Proof.Machine.execFuserReadyFall s

end Sys2Proof.Machine
end

