-- ==== Sys2Proof/Safety.lean ====
section
/-! DEFINITION. What a sound state is: the invariants the spec states of the part's collections and counters. Each is a
property of one state; that it holds after reset and that every step keeps it are statements for the provers. -/

namespace Sys2Proof.Machine

/-- The write queue (R7, R11, R12): at most 16 entries, no two of one line; drain mode is on whenever 13 or more are held;
during a burst the count is below 4 and the queue is not empty; outside one the count is 0 (DEDUCED from 1.8, log 28). -/
def WriteQueueInv (s : State) : Prop :=
  s.bus.queue.length ≤ 16 ∧ (s.bus.queue.map QueueEntry.line).Nodup ∧
  (s.bus.drain = false → s.bus.queue.length < 13 ∧ s.bus.burst = 0) ∧
  (s.bus.drain = true → s.bus.queue ≠ [] ∧ s.bus.burst < 4)

/-- The masters with a request before the passage. -/
def Bus.askers (b : Bus) : List Master :=
  b.reads.map OutstandingRead.master ++ b.waiting.map WriteReq.master ++
    b.heldRequests.map fun q =>
      match q with
      | .write w => w.master
      | .read r => r.master

/-- The masters (R1, R9): at most one request of each is before the passage, its master is held, and a read in flight is in
the outstanding-read set. -/
def MastersInv (s : State) : Prop :=
  s.bus.askers.Nodup ∧ (∀ m ∈ s.bus.askers, s.busHeld m = true) ∧
  (∀ m, s.bus.port = .read m → m ∈ s.bus.reads.map OutstandingRead.master)

/-- Once armed, the setup values in force passed every check (R18, R20). -/
def ArmedSetup (s : State) : Prop := s.armed = true → validate s.setup = .passed

/-- The number of frames in the FREE state. -/
def Frames.countFree (f : Frames) : Nat := f.table.toList.countP fun r => r.state == .free

/-- The frame table (3.1, R47, R48): a frame is BOUND exactly when its count is above 0; the free-frame count is the number of
FREE frames; once armed, the pace state is Hold at or below the low mark and Release at or above the high mark. -/
def FrameInv (s : State) : Prop :=
  ArmedSetup s ∧
  (∀ n, (s.frames.at n).state = .bound ↔ 0 < (s.frames.at n).count) ∧
  s.frames.free = s.frames.countFree ∧
  (s.armed = true → (s.frames.free ≤ s.setup.paceLow → s.frames.hold = true) ∧
    (s.setup.paceHigh ≤ s.frames.free → s.frames.hold = false))

/-- The imaging window list (3.6): at most two faces, each frame at most once, no entry without a face. -/
def WindowInv (s : State) : Prop :=
  s.frames.openFaces ≤ 2 ∧ (s.frames.window.map WindowEntry.frame).Nodup ∧
  ∀ e ∈ s.frames.window, e.faces ≠ []

/-- The pending queue (R61): no slot twice, and exactly the PENDING slots. -/
def PendingInv (s : State) : Prop :=
  s.orders.queue.Nodup ∧ ∀ k, k ∈ s.orders.queue ↔ k < 32 ∧ (s.orders.slot k).pending = true

/-- The path states (R87, R88, R92, R93, R98, R162): only RUNNING and DRAINING have sheets in the table; the start, stall and
idle counters are 0 outside STARTING, the driven states and RUNNING. -/
def PathInv (s : State) : Prop :=
  (s.seqr.path ≠ .running ∧ s.seqr.path ≠ .draining → s.track.table = []) ∧
  (s.seqr.path ≠ .starting → s.seqr.startCtr = 0) ∧
  (s.driven = false → s.seqr.stallCtr = 0) ∧
  (s.seqr.path ≠ .running → s.seqr.idleCtr = 0)

/-- The tracking table and the reprint list together hold at most 16 orders (R111). -/
def TableRoomInv (s : State) : Prop := s.track.table.length + s.reprint.length ≤ 16

/-- Each occupied calendar slot holds a face of a record in the tracking table (R105). -/
def CalendarInv (s : State) : Prop :=
  ∀ c ∈ s.launch.calendar.toList, ∀ face, c = some face → ∃ r ∈ s.track.table, r.seq = face.seq

/-- The event ring (10.1, R170, R171): the head is a position, at most 32 records, and exactly the positions from the head on
for the count hold records. -/
def EventRingInv (s : State) : Prop :=
  s.mirror.head < 32 ∧ s.mirror.count ≤ 32 ∧
  ∀ i, i < 32 → ((s.mirror.events[(s.mirror.head + i) % 32]?.join).isSome = true ↔ i < s.mirror.count)

/-- The numbering of the good stacks (R26, R27): once armed with a valid delivery record, D_del is one past it. -/
def DeliveryInv (s : State) : Prop :=
  s.armed = true → s.latch.recordValid = true → s.track.dDel = s.latch.recordSeq + 1

/-- The records the event queue holds, the oldest first (10.1). -/
def Mirror.records (m : Mirror) : List EventRecord :=
  (List.range m.count).filterMap fun i => (m.events[(m.head + i) % 32]?).join

/-- A sound state: all of the invariants together. -/
def Sound (s : State) : Prop :=
  WriteQueueInv s ∧ MastersInv s ∧ FrameInv s ∧ WindowInv s ∧ PendingInv s ∧ PathInv s ∧ TableRoomInv s ∧
  CalendarInv s ∧ EventRingInv s ∧ DeliveryInv s

/-- Nothing that has occurred is still to be taken. -/
def Settled (s : State) : Prop := s.outstanding = none

/-! ## The vocabulary of the statements. A statement about a command names the state `u` that the command meets, once what had
occurred before it is complete. -/

/-- A request of this master comes before the passage: the master is not held, and no reset period is on (R1, R24). -/
def State.hears (u : State) (m : Master) : Prop := u.busHeld m = false ∧ u.inReset = false

/-- The mirror takes a write of this master (R4, R164, R166). -/
def State.mirrorHears (u : State) (m : Master) : Prop := u.hears m ∧ u.armed = true ∧ m ≠ .fetcher

/-- The mirror takes a control word of this master that is not a repeat (R167). -/
def State.takesRequest (u : State) (m : Master) (toggleByte : Byte) : Prop :=
  u.mirrorHears m ∧ toggleByte.getLsbD 0 ≠ u.mirror.lastToggle

/-- What every control word that is taken leaves: its master answered, its bytes kept, its toggle stored (R166, R167). -/
def State.requestTaken (m : Master) (code argument toggleByte unused : Byte) (u : State) : State :=
  { u with
    bus := u.bus.setPort m (.answered .completion)
    mirror :=
      { u.mirror with
        control := unused ++ toggleByte ++ argument ++ code
        lastToggle := toggleByte.getLsbD 0 } }

/-- The row of a control word with this request code (11.3). -/
def controlRow (code : Byte) (m : Master) (argument toggleByte unused : Byte) : Instr :=
  match code.toNat with
  | 1 => .run m argument toggleByte unused
  | 2 => .drain m argument toggleByte unused
  | 3 => .halt m argument toggleByte unused
  | 4 => .resume m argument toggleByte unused
  | 5 => .standby m argument toggleByte unused
  | 6 => .cancelPending m argument toggleByte unused
  | 7 => .pathReset m argument toggleByte unused
  | 8 => .clearTrayStall m argument toggleByte unused
  | 9 => .releaseFrame m argument toggleByte unused
  | 10 => .clearStanding m argument toggleByte unused
  | _ => .unknownRequest m code argument toggleByte unused

/-- One more event at the tail of the queue, stamped with the path count (R171). -/
def State.reported (e : Event) (u : State) : State := { u with mirror := u.mirror.push ⟨e, u.clock.pathCount⟩ }

/-- A path state entered and reported (R87). -/
def State.nowIn (p : PathState) (u : State) : State := ({ u with seqr := { u.seqr with path := p } }).reported (.stateChange p)

/-- The three tick counters at 0 (R87). -/
def Sequencer.countersZero (q : Sequencer) : Sequencer := { q with startCtr := 0, stallCtr := 0, idleCtr := 0 }

/-- The start of the path from IDLE or STANDBY (R69, R90, R93, R100). -/
def State.started (u : State) : State :=
  ({ u with
    clock := { u.clock with pitchRem := 0 }
    seqr := { u.seqr with startCtr := 0, stallCtr := 0, motionSeen := false } }).nowIn .starting

/-- The stop of the path in IDLE or STANDBY: counters 0, and no arrival, occupant or deadline (R77, R97, R98; DEDUCED, log 18). -/
def State.stoppedIn (p : PathState) (u : State) : State :=
  ({ u with
    seqr := u.seqr.countersZero
    track :=
      { u.track with
        arrivals := Vector.replicate 6 []
        occupants := Vector.replicate 6 none
        deadlines := [] } }).nowIn p

/-- What a jam with this record leaves (R96, R154, R155): the record kept, every order of the table in the reprint list by its
sequence, the sheet-flow state of the records cleared, D_gate at D_del, JAM and then STATE_CHANGE(JAMMED) reported. -/
def State.jammedWith (j : JamRecord) (u : State) : State :=
  { u with
    seqr :=
      { path := .jammed
        jam := some j
        startCtr := 0
        stallCtr := 0
        idleCtr := 0
        motionSeen := false }
    reprint := u.track.table.foldl (fun l r => insertCopy r.copy l) u.reprint
    track :=
      { u.track with
        table := []
        arrivals := Vector.replicate 6 []
        occupants := Vector.replicate 6 none
        deadlines := []
        gateQueue := []
        dGate := u.track.dDel }
    launch := { u.launch with calendar := Vector.replicate 64 none, lastExit := none, lastDest := none }
    frames := { u.frames with window := [] }
    mirror :=
      (u.mirror.push ⟨.jam j.code j.station j.seq, j.stamp⟩).push ⟨.stateChange .jammed, u.clock.pathCount⟩ }

/-- A queueing write without a verdict: to other memory, or to the setup area of an armed part (R2, R4, R8). -/
def State.plainWrite (u : State) (w : WriteReq) : Prop :=
  w.master ≠ .fetcher ∧ w.enables ≠ 0 ∧
  (u.region w.line = .other ∨ (u.armed = true ∧ ∃ k, u.region w.line = .setup k))

/-- A queueing write: to the setup area of an armed part, the staging area, the frame area or other memory (R2, R4, R8). -/
def State.queueingWrite (u : State) (w : WriteReq) : Prop :=
  w.master ≠ .fetcher ∧ w.enables ≠ 0 ∧
  (u.region w.line = .other ∨ (u.armed = true ∧ ∃ k, u.region w.line = .setup k) ∨
    (∃ k, u.region w.line = .staging k) ∨ ∃ n, u.region w.line = .frame n)

/-- A place for the write, which no older waiting write needs (R8). -/
def State.hasPlace (u : State) (w : WriteReq) : Prop :=
  u.bus.holdsLine w.line = true ∨ (u.bus.queue.length < 16 ∧ ∀ o ∈ u.bus.waiting, u.needsPlace o = false)

/-- A passed read: the region and master pass it to memory, as a frame-area read of the fetcher or not (R4, R9, R43). -/
def State.passes (u : State) (r : ReadReq) (frameRead : Bool) : Prop :=
  match u.region r.line with
  | .setup _ => u.armed = true ∧ frameRead = false
  | .staging _ => frameRead = false
  | .other => frameRead = false
  | .frame n => if r.master = .fetcher then u.frames.inWindow n = true ∧ frameRead = true else frameRead = false
  | .mirror _ => False
  | .beyond => False

/-- The references on frame `n` among these needs (R35). -/
def refsIn (needs : List (Nat × Nat)) (n : Nat) : Nat := (needs.map fun x => if x.1 = n then x.2 else 0).sum

/-- The references on frame `n` that an order holds (R35, R37). -/
def Order.refsOn (o : Order) (n : Nat) : Nat := refsIn o.needs n

/-- The releases that free a frame when these needs are given back in their order: the one by which a BOUND frame's count
reaches 0 raises FRAME_RELEASED with its generation (R36). -/
def Frames.releasedBy (f : Frames) (needs : List (Nat × Nat)) : List Event :=
  (List.range needs.length).filterMap fun i =>
    match needs[i]? with
    | some (n, k) =>
      let earlier := refsIn (needs.take i) n
      if (f.at n).state = .bound ∧ earlier < (f.at n).count ∧ (f.at n).count ≤ earlier + k then
        some (.frameReleased n (f.at n).generation)
      else none
    | none => none

/-- One occupancy came first: its leading stamp is before the other's; of equal stamps the lower visit (R129; log 22). -/
def Occupancy.before (a b : Occupancy) : Prop :=
  isBefore a.stamp b.stamp = true ∨ (a.stamp = b.stamp ∧ a.visit < b.visit)

/-- The deadlines `ds` after the occupancy `o` at `sn` has ended, by R129. The record's last occupancy: its stuck deadline is
withdrawn. Of several, the oldest: it is withdrawn, and a new one is set on the sensor of the oldest that remains, at that
one's leading stamp + declared length + K. Of several, not the oldest: unchanged. -/
def StuckFollows (u : Setup) (t : Tracking) (sn : Sensor) (o : Occupancy) (ds : List Deadline) : Prop :=
  let mine := fun (other : Sensor) (x : Occupancy) =>
    other ≠ sn ∧ t.occupant other = some x ∧ x.seq = o.seq ∧ x.launch = o.launch
  let withdrawn := t.deadlines.filter fun d => !(d.kind == .stuck && d.sensor == sn && d.owner == o.seq)
  ((∀ other x, ¬ mine other x) → ds = withdrawn) ∧
  ∀ oldest x, mine oldest x → (∀ other y, mine other y → other ≠ oldest → x.before y) →
    (o.before x →
      ds = withdrawn ++ [⟨x.stamp + BitVec.ofNat 24 (x.length + u.stuckMargin), .stuck, oldest, o.seq⟩]) ∧
    (x.before o → ds = t.deadlines)

/-- The levels of PURGE_GATE and JOG_B for a decision of the gate queue's head (R140); an entry without a decision, in a state
no run reaches, keeps them (log 19). -/
def gateLevels (d : Option Decision) (purgeGate jogB : Bool) : Bool × Bool :=
  match d with
  | some (.good .a) => (false, false)
  | some (.good .b) => (false, true)
  | some .purge => (true, jogB)
  | none => (purgeGate, jogB)

/-- A visit is the final FUSE pass of a route (R128). -/
def Sides.finalFuse (sides : Sides) (v : Nat) : Prop := sides = .simplex ∧ v = 4 ∨ sides = .duplex ∧ v = 8

/-- A REG visit asks to open this face with this frame (R40, R136). -/
def Order.asksOpen (o : Order) (v : Nat) (side : Side) (ref : FrameRef) : Prop :=
  v = 2 ∧ side = .front ∧ o.front = some ref ∨ v = 6 ∧ o.sides = .duplex ∧ side = .back ∧ o.back = some ref

end Sys2Proof.Machine
end

