-- ==== Sys2Proof/WellFormed.lean ====
section
/-! DEFINITION. Which commands are well formed: the operands for which a command is the row it stands for.
`exec` gives every command a meaning, the ill-formed ones too; a well-formedness check never stops one. -/

namespace Sys2Proof

/-- Masters 0 to 2, whose mirror and setup writes the part takes (R2, R166); a write by master 3 is aborted (R4). -/
def Master.mayWrite (m : Master) : Bool := m != .fetcher

/-- Bytes 24 to 27 of setup line 7: the arm word at 248 to 251 (11.1). -/
def armWordEnables : Enables := 0x0F000000#32

/-- The arm code 34100001h (11.1). -/
def armCode : BitVec 32 := 0x34100001#32

/-- A setup-line write is an arm attempt (R17): line 7, all four bytes of the arm word enabled, carrying the code. -/
def armAttempt (block : Nat) (enables : Enables) (data : Line) : Bool :=
  block == 7 && (enables &&& armWordEnables) == armWordEnables && data.extractLsb' 192 32 == armCode

/-- The mirror lines 8, 9 and 10 hold the request words (offsets 100h, 120h, 140h) in their bytes 0 to 3. -/
def coversRequestWord (block : Nat) (enables : Enables) : Bool :=
  (block == 8 || block == 9 || block == 10) && (enables &&& 0xF#32) == 0xF#32

/-- The request codes R176 refuses: 0 and 11 to 255. -/
def unknownCode (code : Byte) : Bool := code == 0 || decide (11 ≤ code.toNat)

/-- The command is the row its constructor stands for. -/
def Instr.wellFormed : Instr → Bool
  | .setupWrite m block en data => m.mayWrite && en != 0 && !armAttempt block en data
  | .arm m _ _ => m.mayWrite
  | .run m _ _ _ => m.mayWrite
  | .drain m _ _ _ => m.mayWrite
  | .halt m _ _ _ => m.mayWrite
  | .resume m _ _ _ => m.mayWrite
  | .standby m _ _ _ => m.mayWrite
  | .cancelPending m _ _ _ => m.mayWrite
  | .pathReset m _ _ _ => m.mayWrite
  | .clearTrayStall m _ _ _ => m.mayWrite
  | .releaseFrame m _ _ _ => m.mayWrite
  | .clearStanding m _ _ _ => m.mayWrite
  | .unknownRequest m code _ _ _ => m.mayWrite && unknownCode code
  | .eventsTaken m _ _ => m.mayWrite
  | .clearStandingWord m _ _ => m.mayWrite
  | .mirrorWriteIgnored m block en _ => m.mayWrite && en != 0 && !coversRequestWord block en
  | .powerOnReset _ => true
  | .powerLoss => true
  | .lineReset => true
  | .resetPeriodEnd => true
  | .busWrite _ => true
  | .busRead _ => true
  | .waitingWriteTaken m => m.mayWrite
  | .memoryIssue => true
  | .readResponse _ => true
  | .readError => true
  | .writeResponse => true
  | .memoryFault => true
  | .encPulse => true
  | .pitchTick => true
  | .tick _ => true
  | .leadingEdge _ => true
  | .trailingEdge _ => true
  | .startFail => true
  | .stall => true
  | .idleExpiry => true
  | .misfeed _ => true
  | .late _ => true
  | .stuck _ => true
  | .coverClosedFall => true
  | .coverClosedRise => true
  | .fuserReadyRise => true
  | .trayEmptyChange _ _ => true
  | .stackFullChange _ _ => true
  | .fuserReadyFall => true

end Sys2Proof
end

