-- ==== Sys2Proof/Certificates/Slice0/Obligations.lean ====
section
/-! DEFINITION. The statements for the provers. In each, `u` is the state that the command meets: `s` with everything that had
occurred before it completed (log 1). A command that names one of those happenings meets `s` itself. -/

open Sys2Proof Sys2Proof.Machine

/-! ## The machine -/

/-- A step runs the command at the front of the queue with the queue's rest; with none the block idles (log 5). -/
def Obligations.StepRunsFrontCommand : Prop :=
  ∀ s : State,
    (∀ c rest, s.pending = c :: rest → step s = exec c { s with pending := rest }) ∧
    (s.pending = [] → step s = .next s)

/-- No command changes the queue of waiting commands: only `step` takes from it (log 6). -/
def Obligations.ExecKeepsQueue : Prop :=
  ∀ c s t, exec c s = .next t → t.pending = s.pending

/-- Completing what has occurred always ends with nothing outstanding, whatever state it starts from (R8, R76, R79; log 1). -/
def Obligations.SettleCompletes : Prop := ∀ s : State, Settled s.settle

/-- The reset state is sound, has nothing outstanding, and no command waits. -/
def Obligations.ResetIsSound : Prop := Sound State.reset ∧ Settled State.reset ∧ State.reset.pending = []

/-! ## Invariants of every step -/

/-- Every step keeps the write queue's rules (R7, R11, R12). That the burst count is 0 outside a burst is read from 1.8 (DEDUCED,
log 28). -/
def Obligations.WriteQueueKept : Prop := ∀ s t, WriteQueueInv s → step s = .next t → WriteQueueInv t

/-- Every step keeps at most one request of each master before the passage (R1, R9). -/
def Obligations.MastersKept : Prop := ∀ s t, MastersInv s → step s = .next t → MastersInv t

/-- Every step keeps the frame records, the free-frame count and the pace state together (3.1, R47, R48). -/
def Obligations.FramesKept : Prop := ∀ s t, FrameInv s → step s = .next t → FrameInv t

/-- Every step keeps the imaging window list's bounds (3.6, R40 to R42). -/
def Obligations.WindowKept : Prop := ∀ s t, WindowInv s → step s = .next t → WindowInv t

/-- Every step keeps the pending queue equal to the PENDING slots, each once (R61). -/
def Obligations.PendingKept : Prop := ∀ s t, PendingInv s → step s = .next t → PendingInv t

/-- Every step keeps the table empty in the states without launched sheets, and each counter 0 where it does not run (R88, R92,
R93, R97, R98, R162). -/
def Obligations.PathKept : Prop := ∀ s t, PathInv s → step s = .next t → PathInv t

/-- Every step keeps at most 16 orders in table and reprint list, and only faces of the table's sheets in the calendar (R105,
R111). -/
def Obligations.SheetsKept : Prop :=
  ∀ s t, TableRoomInv s → CalendarInv s → step s = .next t → TableRoomInv t ∧ CalendarInv t

/-- Every step keeps the event ring: records exactly at the positions from the head on for the count (10.1, R170, R171). -/
def Obligations.EventRingKept : Prop := ∀ s t, EventRingInv s → step s = .next t → EventRingInv t

/-- Every step keeps D_del one past a valid delivery record while armed (R26, R27). -/
def Obligations.DeliveryKept : Prop := ∀ s t, DeliveryInv s → step s = .next t → DeliveryInv t

/-! ## Hardware resets -/

/-- POWER_ON_RESET sets every block to its reset values, whatever the level of RESET_N; the request in flight on the memory port
stays in flight (R15, log 10). POWER_LOSS leaves the same values with POWER_GOOD low (the model's choice, log 12). LINE_RESET
keeps the delivery record, sets the rest to its reset values, and leaves every output low but PACE_HOLD (R22 to R24). The model's
choices here: LINE_RESET within a reset period or without power is no reset (log 3); the free-value counter is kept (log 13); what is
not held until arming stands at zeros and empty lists (log 15), closed set positions at 0, 0 and A (log 31); and
POWER_ON_RESET is performed whatever the level before (log 29). -/
def Obligations.HardwareResets : Prop :=
  ∀ s u : State, s.settle = u →
    (∀ resetN, ∃ t, exec (.powerOnReset resetN) s = .next t ∧
      exec .powerLoss s = .next { t with pins := { s.pins with powerGood := false } } ∧
      t = { pins := { s.pins with powerGood := true, resetN := resetN }
            bus := .reset s.bus.port.afterReset
            latch := .reset false 0 .power
            frames := .reset
            orders := .reset 0
            clock := .reset
            seqr := .reset .unconfigured
            launch := .reset
            track := .reset 0
            reprint := []
            mirror := .reset
            freeCount := s.freeCount
            pending := s.pending }) ∧
    (u.inReset = false → ∃ t, exec .lineReset s = .next t ∧
      t = { pins := { u.pins with resetN := false }
            bus := .reset u.bus.port.afterReset
            latch := .reset u.latch.recordValid u.latch.recordSeq .line
            frames := .reset
            orders := .reset 0
            clock := .reset
            seqr := .reset .unconfigured
            launch := .reset
            track := .reset 0
            reprint := []
            mirror := .reset
            freeCount := u.freeCount
            pending := u.pending } ∧
      t.outputs = ⟨false, false, Vector.replicate 4 false, false, false, false, true, false⟩) ∧
    (u.inReset = true → exec .lineReset s = .next u)

/-- RESET_PERIOD_END raises RESET_N; the requests held through the period are then taken as new ones, in the order of their
presentation (the order of several: log 11). -/
def Obligations.ResetPeriodEnds : Prop :=
  ∀ s u : State, s.settle = u → u.pins.powerGood = true → u.pins.resetN = false →
    exec .resetPeriodEnd s = .next
      (u.bus.heldRequests.foldl
        (fun t q =>
          match q with
          | .write w => presentWrite w t
          | .read r => presentRead r t)
        { u with pins := { u.pins with resetN := true }, bus := { u.bus with heldRequests := [] } })

/-! ## Requests before the passage -/

/-- A request that enables no byte is answered at once and changes nothing else (R1; the model's free-value counter moves with the
answer's bytes, log 13). In a reset period a request holds its master and is kept for later (R24; with POWER_GOOD low this is the
model's choice, log 12). A held master's next request
is a fault, and a request row meets no mirror while UNCONFIGURED (the model's choices, logs 3 and 4). -/
def Obligations.RequestsAnsweredOrHeld : Prop :=
  ∀ s u : State, s.settle = u →
    (∀ w, u.hears w.master → w.enables = 0 →
      exec (.busWrite w) s = .next { u with bus := u.bus.setPort w.master (.answered .completion) }) ∧
    (∀ r, u.hears r.master → r.enables = 0 →
      ∃ line, exec (.busRead r) s = .next
        { u with bus := u.bus.setPort r.master (.answered (.data line)), freeCount := u.freeCount + 1 }) ∧
    (∀ w, u.busHeld w.master = false → u.inReset = true → exec (.busWrite w) s = .next
      { u with bus := { u.bus.setPort w.master .held with heldRequests := u.bus.heldRequests ++ [.write w] } }) ∧
    (∀ r, u.busHeld r.master = false → u.inReset = true → exec (.busRead r) s = .next
      { u with bus := { u.bus.setPort r.master .held with heldRequests := u.bus.heldRequests ++ [.read r] } }) ∧
    (∀ w, u.busHeld w.master = true → exec (.busWrite w) s = .fault (.masterHeld w.master)) ∧
    (∀ r, u.busHeld r.master = true → exec (.busRead r) s = .fault (.masterHeld r.master)) ∧
    (∀ m code a b x, u.busHeld m = false → u.armed = false → exec (controlRow code m a b x) s = .next u)

/-- The setup area while UNCONFIGURED. A setup write merges its enabled bytes into the image, but for the read-only arm result
byte 252 (R16). A read by any master is answered at once with the image's bytes, byte 252 giving the arm result by its code (R2,
R16, R174); nothing else changes but the model's free-value counter (log 13). -/
def Obligations.SetupWriteCaptured : Prop :=
  (∀ s u m block en data, s.settle = u → u.hears m → u.armed = false → m ≠ .fetcher → en ≠ 0 →
    isArmAttempt block.val en data = false →
    exec (.setupWrite m block en data) s = .next
      { u with
        bus := u.bus.setPort m (.answered .completion)
        latch :=
          { u.latch with
            image := u.latch.image.set block
              (mergeLine u.latch.image[block] data (if block = 7 then en &&& 0xEFFFFFFF#32 else en)) } }) ∧
  ∀ s u r (block : Fin 8), s.settle = u → u.hears r.master → u.armed = false → r.enables ≠ 0 →
    r.line = BitVec.ofNat 27 block.val →
    ∃ line, exec (.busRead r) s = .next
      { u with bus := u.bus.setPort r.master (.answered (.data line)), freeCount := u.freeCount + 1 } ∧
    ∀ i, i < 32 → r.enables.getLsbD i = true →
      (¬(block = 7 ∧ i = 28) → byteAt line i = byteAt u.latch.image[block] i) ∧
      (block = 7 → i = 28 → byteAt line i = (match u.latch.armResult with
        | .none => 0 | .passed => 1 | .sizeCode => 2 | .frameCount => 3 | .align => 4 | .range => 5 | .overlap => 6
        | .pitch => 7 | .offsetRange => 8 | .offsetOrder => 9 | .loop => 10 | .horizon => 11 | .window => 12
        | .limit => 13 | .paceMarks => 14 | .exitPath => 15))

/-- A passed arm attempt puts the setup values in force and gives every block its armed starting values in one acceptance,
numbering from the delivery record when it is valid (R20, R26); the closed set positions hold 0, 0 and A (log 31). -/
def Obligations.ArmPasses : Prop :=
  ∀ s u m en data image v start, s.settle = u → u.hears m → u.armed = false → m ≠ .fetcher →
    image = captureImage u.latch.image 7 (armRequest m en data).enables (armRequest m en data).data →
    setupOf image = v → validate v = .passed →
    start = (if u.latch.recordValid then u.latch.recordSeq + 1 else v.firstSequence) →
    ∃ t, exec (.arm m en data) s = .next t ∧
      t = { u with
        bus := u.bus.setPort m (.answered .completion)
        latch := { u.latch with image := image, armResult := .passed, setup := v }
        frames := t.frames
        orders := .reset start
        clock := .reset
        seqr := .reset .idle
        launch := .reset
        track := .reset start
        reprint := [] } ∧
      t.frames.window = [] ∧ t.frames.free = v.frameCount ∧ t.frames.hold = false ∧
      ∀ n, t.frames.at n = if n < v.frameCount then ⟨.free, 0, 0, false⟩ else .absent

/-- A failed arm attempt is aborted and changes the arm result alone; the result is that of the first failing check (R18). -/
def Obligations.ArmFails : Prop :=
  ∀ s u m en data image, s.settle = u → u.hears m → u.armed = false → m ≠ .fetcher →
    image = captureImage u.latch.image 7 (armRequest m en data).enables (armRequest m en data).data →
    (∀ before c after, setupChecks (setupOf image) = before ++ c :: after → (∀ b ∈ before, b.1 = true) → c.1 = false →
      exec (.arm m en data) s = .next
        { u with
          bus := u.bus.setPort m (.answered .abort)
          latch := { u.latch with armResult := c.2 } })

/-- The guard aborts: any write by master 3 (R4), a write to a BOUND frame (R32), a write without a post to a PENDING slot
(R52). Each sets GUARD_SEEN and raises GUARD_ABORT; nothing else changes. -/
def Obligations.GuardAborts : Prop :=
  ∀ s u w target, s.settle = u → u.hears w.master → w.enables ≠ 0 →
    (w.master = .fetcher ∧ target = (match u.region w.line with | .frame n => .frame n | _ => .none) ∨
     w.master ≠ .fetcher ∧ u.hasPlace w ∧
      ((∃ n, u.region w.line = .frame n ∧ (u.frames.at n).state = .bound ∧ target = .frame n) ∨
       (∃ k, u.region w.line = .staging k ∧ (u.orders.slot k).pending = true ∧ isPost w = false ∧
          target = .slot k))) →
    exec (.busWrite w) s = .next
      { u with
        bus := u.bus.setPort w.master (.answered .abort)
        mirror :=
          ({ u.mirror with guardSeen := true }).push ⟨.guardAbort target w.master, u.clock.pathCount⟩ }

/-- Beyond memory a write of master 0, 1 or 2 is aborted and a read is answered with FFh in every byte, each with RANGE_FAULT;
while UNCONFIGURED no address is beyond memory (R6). -/
def Obligations.BeyondMemory : Prop :=
  ∀ s u : State, s.settle = u →
    (∀ w, u.hears w.master → u.armed = true → w.enables ≠ 0 → w.master ≠ .fetcher →
      u.setup.memorySize ≤ lineAddress w.line → exec (.busWrite w) s = .next
        { u with
          bus := u.bus.setPort w.master (.answered .abort)
          mirror :=
            ({ u.mirror with rangeSeen := true }).push ⟨.rangeFault w.master w.line, u.clock.pathCount⟩ }) ∧
    (∀ r, u.hears r.master → u.armed = true → r.enables ≠ 0 →
      u.setup.memorySize ≤ lineAddress r.line → ∃ line, exec (.busRead r) s = .next
        { u with
          bus := u.bus.setPort r.master (.answered (.data line))
          mirror :=
            ({ u.mirror with rangeSeen := true }).push ⟨.rangeFault r.master r.line, u.clock.pathCount⟩ } ∧
        ∀ i, i < 32 → byteAt line i = 0xFF) ∧
    (u.armed = false → ∀ line, u.region line ≠ .beyond)

/-- A queueing write. Without a verdict it merges into the entry of its line, or opens an entry at the tail; 13 entries begin a
drain burst (R7, R10, R12). Any queueing write that finds no place, one for the staging or the frame area too, waits with its
master held: no verdict is taken and no owner's state changes (R8). -/
def Obligations.PlainWriteQueued : Prop :=
  ∀ s u w, s.settle = u → u.hears w.master →
    (u.plainWrite w →
      (u.bus.holdsLine w.line = true → (u.bus.drain = true ∨ u.bus.queue.length < 13) →
        exec (.busWrite w) s = .next
          { u with bus :=
            { u.bus.setPort w.master (.answered .completion) with
              queue := u.bus.queue.map fun e =>
                if e.line = w.line then
                  { e with
                    data := mergeLine e.data w.data w.enables
                    enables := e.enables ||| w.enables
                    promoted := e.promoted || u.bus.readWaits w.line }
                else e } }) ∧
      (u.bus.holdsLine w.line = false → u.hasPlace w →
        exec (.busWrite w) s = .next
          { u with bus :=
            { u.bus.setPort w.master (.answered .completion) with
              queue := u.bus.queue ++ [⟨w.line, w.data, w.enables, w.master, u.bus.readWaits w.line⟩]
              drain := u.bus.drain || decide (12 ≤ u.bus.queue.length)
              burst := if u.bus.drain = false ∧ 12 ≤ u.bus.queue.length then 0 else u.bus.burst } })) ∧
    (u.queueingWrite w → u.bus.holdsLine w.line = false → ¬ u.hasPlace w →
      exec (.busWrite w) s = .next
        { u with bus := { u.bus.setPort w.master .held with waiting := u.bus.waiting ++ [w] } })

/-- WAITING_WRITE_TAKEN takes the master's waiting write, with the verdict and effects it has at that moment, when it can be taken:
when an entry holds its line or it needs no place, without waiting for older ones; otherwise when there is a place that no
older waiting write needs (R8). Without a verdict it merges into its line's entry, or opens an entry, and completes (R7). -/
def Obligations.WaitingWriteIsTaken : Prop :=
  ∀ s w older rest, s.bus.waiting = older ++ w :: rest → (∀ o ∈ older, o.master ≠ w.master) →
    (s.bus.holdsLine w.line = true ∨ s.queueing w = false ∨
      s.bus.queue.length < 16 ∧ ∀ o ∈ older, s.queueing o = false ∨ s.bus.holdsLine o.line = true) →
    exec (.waitingWriteTaken w.master) s =
      .next (takeWrite w { s with bus := { s.bus with waiting := older ++ rest } }) ∧
    (s.plainWrite w → s.bus.holdsLine w.line = true → (s.bus.drain = true ∨ s.bus.queue.length < 13) →
      exec (.waitingWriteTaken w.master) s = .next
        { s with bus :=
          { s.bus.setPort w.master (.answered .completion) with
            waiting := older ++ rest
            queue := s.bus.queue.map fun e =>
              if e.line = w.line then
                { e with
                  data := mergeLine e.data w.data w.enables
                  enables := e.enables ||| w.enables
                  promoted := e.promoted || s.bus.readWaits w.line }
              else e } }) ∧
    (s.plainWrite w → s.bus.holdsLine w.line = false →
      exec (.waitingWriteTaken w.master) s = .next
        { s with bus :=
          { s.bus.setPort w.master (.answered .completion) with
            waiting := older ++ rest
            queue := s.bus.queue ++ [⟨w.line, w.data, w.enables, w.master, s.bus.readWaits w.line⟩]
            drain := s.bus.drain || decide (12 ≤ s.bus.queue.length)
            burst := if s.bus.drain = false ∧ 12 ≤ s.bus.queue.length then 0 else s.bus.burst } })

/-- A passed read holds its master, joins the outstanding-read set, and promotes the entry of its line (R9, R10, R43). -/
def Obligations.ReadPasses : Prop :=
  ∀ s u r frameRead, s.settle = u → u.hears r.master → r.enables ≠ 0 → u.passes r frameRead →
    exec (.busRead r) s = .next
      { u with bus :=
        { u.bus.setPort r.master .held with
          reads := u.bus.reads ++ [⟨r.master, r.line, r.enables, frameRead, false⟩]
          queue := u.bus.queue.map fun e => if e.line = r.line then { e with promoted := true } else e } }

/-- A mirror read answers every enabled byte from the live state and changes nothing else; the model's free-value counter moves
(R165; log 13). The bytes are those of the views of 11.4, with every field that its record, kind or entry does not use, every
unused byte, and everything from 760h on at 0 (R67, R103, R146, R163, R177). -/
def Obligations.MirrorReadAnswered : Prop :=
  (∀ s u r k, s.settle = u → u.hears r.master → r.enables ≠ 0 → u.region r.line = .mirror k →
    ∃ line, exec (.busRead r) s = .next
      { u with bus := u.bus.setPort r.master (.answered (.data line)), freeCount := u.freeCount + 1 } ∧
    ∀ i, i < 32 → r.enables.getLsbD i = true → byteAt line i = mirrorByte u k i) ∧
  ∀ (u : State) (pathCode : PathState → Byte) (jamByte : JamCode → Byte) (station : Option Sensor → Byte),
    pathCode = (fun p => match p with
      | .unconfigured => 0 | .idle => 1 | .starting => 2 | .running => 3 | .draining => 4 | .standby => 5
      | .jammed => 6) →
    jamByte = (fun c => match c with
      | .late => 1 | .early => 2 | .unexpected => 3 | .stuck => 4 | .stall => 5 | .startFail => 6 | .cover => 7
      | .halt => 8) →
    station = (fun st => match st with
      | none => 0 | some .feed => 1 | some .reg => 2 | some .xfer => 3 | some .fuse => 4 | some .loop => 5
      | some .exit => 6) →
    -- 000h: the part code 3410h and the revision
    (mirrorByte u 0 0 = 0x10 ∧ mirrorByte u 0 1 = 0x34 ∧ mirrorByte u 0 2 = 1 ∧ ∀ i, 3 ≤ i → mirrorByte u 0 i = 0) ∧
    -- 020h: the path state and the jam record
    mirrorByte u 1 0 = pathCode u.seqr.path ∧
    (u.seqr.jam = none → ∀ i, 1 ≤ i → mirrorByte u 1 i = 0) ∧
    (∀ j, u.seqr.jam = some j →
      mirrorByte u 1 1 = jamByte j.code ∧ mirrorByte u 1 2 = station j.station ∧
      mirrorByte u 1 3 = (if j.seq = none then 0 else 1) ∧
      (∀ i, i < 4 → mirrorByte u 1 (4 + i) = byteAt (j.seq.getD 0) i) ∧
      (∀ i, i < 3 → mirrorByte u 1 (8 + i) = byteAt j.stamp i) ∧ ∀ i, 11 ≤ i → mirrorByte u 1 i = 0) ∧
    -- 040h: the standing conditions, bits 0 to 17
    (∀ i b, i < 32 → b < 8 → (mirrorByte u 2 i).getLsbD b = u.conditions.bits.getD (8 * i + b) false) ∧
    -- 060h: E_post, D_gate, D_del, whether the delivery record is valid
    (∀ i, i < 4 → mirrorByte u 3 i = byteAt u.orders.ePost i ∧ mirrorByte u 3 (4 + i) = byteAt u.track.dGate i ∧
      mirrorByte u 3 (8 + i) = byteAt u.track.dDel i) ∧
    mirrorByte u 3 12 = (if u.latch.recordValid then 1 else 0) ∧ (∀ i, 13 ≤ i → mirrorByte u 3 i = 0) ∧
    -- 080h: the free-frame count and the pace state
    (mirrorByte u 4 0 = BitVec.ofNat 8 u.frames.free ∧ mirrorByte u 4 1 = (if u.frames.hold then 1 else 0) ∧
      ∀ i, 2 ≤ i → mirrorByte u 4 i = 0) ∧
    -- 0A0h: the pending depth and the head's sequence
    (mirrorByte u 5 0 = BitVec.ofNat 8 u.orders.queue.length ∧
      (u.orders.queue = [] → ∀ i, 1 ≤ i → mirrorByte u 5 i = 0) ∧
      (∀ k rest, u.orders.queue = k :: rest → ∀ i, i < 4 →
        mirrorByte u 5 (4 + i) = byteAt (orderOfLine (u.orders.slot k).latched).seq i) ∧
      ∀ i, 1 ≤ i → i < 4 ∨ 8 ≤ i → mirrorByte u 5 i = 0) ∧
    -- 0C0h: the filtered levels; 0E0h: the reset cause
    ((∀ sn : Sensor, mirrorByte u 6 sn.idx = (if (u.clock.filters[sn.idx]).level then 1 else 0)) ∧
      ∀ i, 6 ≤ i → mirrorByte u 6 i = 0) ∧
    (mirrorByte u 7 0 = (match u.latch.cause with | .power => 1 | .line => 2) ∧ ∀ i, 1 ≤ i → mirrorByte u 7 i = 0) ∧
    -- 100h, 120h, 140h: the request words; 160h: the event queue's head and count
    (∀ i, mirrorByte u 8 i = (if i < 4 then byteAt u.mirror.control i else 0) ∧
      mirrorByte u 9 i = (if i < 4 then byteAt u.mirror.eventsTaken i else 0) ∧
      mirrorByte u 10 i = (if i < 4 then byteAt u.mirror.clearStanding i else 0)) ∧
    (mirrorByte u 11 0 = BitVec.ofNat 8 u.mirror.head ∧ mirrorByte u 11 1 = BitVec.ofNat 8 u.mirror.count ∧
      ∀ i, 2 ≤ i → mirrorByte u 11 i = 0) ∧
    -- 200h: the event records; of each kind the bytes 0 to 3, the subject and the extra byte
    (∀ p b, p < 32 → b < 16 → ∀ at' : Nat → Byte, at' = (fun i => mirrorByte u (16 + p / 2) (16 * (p % 2) + i)) →
      (u.mirror.events[p]?.join = none → at' b = 0) ∧
      ∀ e stamp, u.mirror.events[p]? = some (some ⟨e, stamp⟩) →
        (8 ≤ b → b < 11 → at' b = byteAt stamp (b - 8)) ∧ (12 ≤ b → at' b = 0) ∧
        ∀ (head : List Byte) (subject : BitVec 32) (extra : Byte),
          (head, subject, extra) = (match e with
            | .orderRefused r k =>
              ([1, (match r with
                | .slotBusy => 1 | .sequenceGap => 2 | .setBreak => 3 | .form => 4 | .frameStale => 5
                | .frameFull => 6), 0, 0], BitVec.ofNat 32 k, 0)
            | .sheetDelivered q k c =>
              ([2, 0, 6, (match k with | .a => 1 | .b => 2)], q, if c then 1 else 0)
            | .sheetDiverted q r =>
              ([3, (match r with
                | .spoiled .length => 1 | .spoiled .fetch => 2 | .spoiled .memory => 3
                | .outOfSequence => 4), 6, 0], q, 0)
            | .misfeed q tray n => ([4, 0, 1, BitVec.ofNat 8 tray], q, BitVec.ofNat 8 n)
            | .trayStalled tray q => ([5, 0, 0, BitVec.ofNat 8 tray], q, 0)
            | .jam c st none => ([6, jamByte c, station st, 0], 0, 0)
            | .jam c st (some q) => ([6, jamByte c, station st, 0], q, 1)
            | .frameReleased n g => ([7, 0, 0, g], BitVec.ofNat 32 n, 0)
            | .guardAbort .none m => ([8, 0, 0, BitVec.ofNat 8 m.idx], 0, 0)
            | .guardAbort (.frame n) m => ([8, 1, 0, BitVec.ofNat 8 m.idx], BitVec.ofNat 32 n, 0)
            | .guardAbort (.slot n) m => ([8, 2, 0, BitVec.ofNat 8 m.idx], BitVec.ofNat 32 n, 0)
            | .fetchBlanked n => ([9, 0, 0, 0], BitVec.ofNat 32 n, 0)
            | .rangeFault m l => ([10, 0, 0, BitVec.ofNat 8 m.idx], BitVec.ofNat 32 (lineAddress l), 0)
            | .memoryFault m l => ([11, 0, 0, BitVec.ofNat 8 m.idx], BitVec.ofNat 32 (lineAddress l), 0)
            | .requestRefused c path => ([12, c, 0, pathCode path], 0, 0)
            | .resumeRefused st => ([13, 0, station st, 0], 0, 0)
            | .standbyDeclined => ([14, 0, 0, 0], 0, 0)
            | .stateChange path => ([15, 0, 0, pathCode path], 0, 0)) →
          [at' 0, at' 1, at' 2, at' 3] = head ∧ (∀ i, i < 4 → at' (4 + i) = byteAt subject i) ∧ at' 11 = extra) ∧
    -- 400h: the tracking table; an entry beyond the last record is 0
    (∀ j i, j < 16 → i < 32 →
      (u.track.table.length ≤ j → mirrorByte u (32 + j) i = 0) ∧
      ∀ r at', u.track.table[j]? = some r → at' = (fun b => mirrorByte u (32 + j) b) →
        (i < 4 → at' i = byteAt r.copy.order.seq i) ∧
        at' 4 = (match r.phase with | .feeding => 1 | .inPath => 2 | .decided _ => 3) ∧
        at' 5 = BitVec.ofNat 8 r.copy.order.tray ∧ at' 6 = (match r.copy.order.dest with | .a => 1 | .b => 2) ∧
        at' 7 = (match r.copy.order.sides with | .simplex => 1 | .duplex => 2) ∧
        (at' 8).getLsbD 0 = r.copy.order.lastOfSet ∧ (at' 8).getLsbD 1 = decide (r.phase = .decided .purge) ∧
        (at' 8).getLsbD 2 = r.backSlot.isSome ∧ (at' 8).getLsbD 3 = r.leadStamp.isSome ∧
        (∀ b, 4 ≤ b → (at' 8).getLsbD b = false) ∧ at' 9 = BitVec.ofNat 8 (r.nextVisit.getD 0) ∧
        at' 10 = (match r.spoiled with | none => 0 | some .length => 1 | some .fetch => 2 | some .memory => 3) ∧
        at' 11 = (match r.phase with
          | .decided (.good .a) => 1 | .decided (.good .b) => 2 | .decided .purge => 3 | .feeding => 0 | .inPath => 0) ∧
        (i < 2 → at' (12 + i) = byteAt r.launchPitch i ∧ at' (14 + i) = byteAt r.frontSlot i ∧
          at' (16 + i) = byteAt (r.backSlot.getD 0) i ∧ at' (18 + i) = byteAt r.exitSlot i) ∧
        (i < 3 → at' (20 + i) = byteAt r.launchCount i ∧ at' (24 + i) = byteAt (r.leadStamp.getD 0) i ∧
          at' (28 + i) = (match r.measured with | none => 0xFF | some m => byteAt (BitVec.ofNat 24 m) i)) ∧
        at' 23 = 0 ∧ at' 27 = 0 ∧ at' 31 = 0) ∧
    -- 600h: the frame table
    (∀ n at', n < 64 → at' = (fun b => mirrorByte u (48 + n / 8) (4 * (n % 8) + b)) →
      at' 0 = (match (u.frames.at n).state with | .absent => 0 | .free => 1 | .ready => 2 | .bound => 3) ∧
      at' 1 = BitVec.ofNat 8 (u.frames.at n).count ∧ at' 2 = (u.frames.at n).generation ∧
      (at' 3).getLsbD 0 = (u.frames.at n).toggle ∧
      ((∀ w ∈ u.frames.window, w.frame ≠ n) → (at' 3) >>> 1 = 0) ∧
      (WindowInv u → ∀ w ∈ u.frames.window, w.frame = n → (at' 3) >>> 1 = BitVec.ofNat 8 w.faces.length)) ∧
    -- 700h: the reprint list; everything else reads 0
    (mirrorByte u 56 0 = BitVec.ofNat 8 u.reprint.length ∧ (∀ i, 1 ≤ i → mirrorByte u 56 i = 0) ∧
      ∀ k i, k < 16 → i < 4 → mirrorByte u (57 + k / 8) (4 * (k % 8) + i) =
        (match u.reprint[k]? with | some c => byteAt c.order.seq i | none => 0)) ∧
    ∀ k i, 12 ≤ k ∧ k < 16 ∨ 59 ≤ k → mirrorByte u k i = 0

/-- The free memory port issues the first of: the oldest promoted entry; the fetcher's ready read; in drain mode the oldest
entry; the oldest ready read; the oldest entry (R11). An issued entry leaves the queue and counts in a drain burst (R12); that the
count becomes 0 when a burst ends is read from 1.8 (DEDUCED, log 28). -/
def Obligations.PortIssuesInOrder : Prop :=
  ∀ s u : State, s.settle = u → u.bus.port = .idle →
    ∀ issued : Issue,
      (match u.bus.queue.find? (·.promoted), u.bus.reads.find? (fun r => r.master == .fetcher && u.bus.ready r) with
        | some e, _ => issued = .write e
        | none, some r => issued = .read r
        | none, none =>
          match u.bus.drain, u.bus.queue, u.bus.reads.find? u.bus.ready with
          | true, e :: _, _ => issued = .write e
          | _, _, some r => issued = .read r
          | false, e :: _, none => issued = .write e
          | _, [], none => False) →
      exec .memoryIssue s = .next
        { u with bus :=
          match issued with
          | .read r =>
            { u.bus with
              port := .read r.master
              reads := u.bus.reads.map fun x => if x.master = r.master then { x with issued := true } else x }
          | .write e =>
            let rest := u.bus.queue.filter fun x => x.line != e.line
            { u.bus with
              port := .write e
              queue := rest
              drain := u.bus.drain && !rest.isEmpty && (decide (u.bus.burst + 1 < 4) || decide (13 ≤ rest.length))
              burst :=
                if u.bus.drain then (if rest ≠ [] ∧ u.bus.burst + 1 < 4 then u.bus.burst + 1 else 0)
                else u.bus.burst } }

/-- The memory controller's answers free the port: read data go to the master and the read leaves the set; a read error goes to the
master and, for a fetcher read of the frame area, spoils the sheet of every open face MEMORY without an event; a write's
completion frees the port alone; an answer to a request from before a hardware reset is discarded (R11, R13, R15, R45). -/
def Obligations.MemoryAnswersTaken : Prop :=
  ∀ s u : State, s.settle = u →
    (∀ m data, u.bus.port = .read m → exec (.readResponse data) s = .next
      { u with bus :=
        { u.bus.setPort m (.answered (.data data)) with
          port := .idle
          reads := u.bus.reads.filter fun r => r.master != m } }) ∧
    (∀ e, u.bus.port = .write e → exec .writeResponse s = .next { u with bus := { u.bus with port := .idle } }) ∧
    (u.bus.port = .stale → ∀ data, ∀ c ∈ [.readResponse data, .readError, .writeResponse, .memoryFault],
      exec c s = .next { u with bus := { u.bus with port := .idle } }) ∧
    (∀ m r, u.bus.port = .read m → u.bus.reads.find? (fun x => x.master == m) = some r →
      exec .readError s = .next
        { u with
          bus :=
            { u.bus.setPort m (.answered .error) with
              port := .idle
              reads := u.bus.reads.filter fun x => x.master != m }
          track :=
            if r.frameRead then u.frames.openSheets.foldl (fun t q => t.spoil q .memory) u.track else u.track })

/-- A write error raises MEMORY_FAULT with the line and the entry's opening master and sets the condition; the write is not
retried and whatever its acceptance changed stands (R14). -/
def Obligations.MemoryFaultReported : Prop :=
  ∀ s u e, s.settle = u → u.bus.port = .write e →
    exec .memoryFault s = .next
      { u with
        bus := { u.bus with port := .idle }
        mirror := ({ u.mirror with memoryFault := true }).push ⟨.memoryFault e.master e.line, u.clock.pathCount⟩ }

/-! ## Frames -/

/-- A write to a frame that is not BOUND is accepted; a new commit makes a FREE or READY frame READY one generation on, a repeat
changes nothing, and any other write to a READY frame frees it; the free-frame count and the pace state follow (R33, R34, R47,
R48). -/
def Obligations.CommitAndDemotion : Prop :=
  ∀ s u w n r, s.settle = u → u.hears w.master → w.enables ≠ 0 → w.master ≠ .fetcher → u.hasPlace w →
    u.region w.line = .frame n → u.frames.at n = r → n < 64 → r.state ≠ .bound → FrameInv u →
    ∃ t, exec (.busWrite w) s = .next t ∧
      t = { u with bus := (u.bus.accept w).setPort w.master (.answered .completion), frames := t.frames } ∧
      t.frames.window = u.frames.window ∧ (∀ k, k ≠ n → t.frames.at k = u.frames.at k) ∧
      (t.frames.free = u.frames.free → t.frames.hold = u.frames.hold) ∧
      (t.frames.free ≠ u.frames.free → t.frames.hold =
        (if t.frames.free ≤ u.setup.paceLow then true else if u.setup.paceHigh ≤ t.frames.free then false
          else u.frames.hold)) ∧
      (r.state = .free ∨ r.state = .ready →
        (isCommit u.setup n w = true → commitToggle w ≠ r.toggle →
          t.frames.at n = ⟨.ready, r.count, r.generation + 1, commitToggle w⟩ ∧
          t.frames.free = if r.state = .free then u.frames.free - 1 else u.frames.free) ∧
        (isCommit u.setup n w = true → commitToggle w = r.toggle →
          t.frames.at n = r ∧ t.frames.free = u.frames.free) ∧
        (isCommit u.setup n w = false →
          t.frames.at n = { r with state := .free } ∧
          t.frames.free = if r.state = .free then u.frames.free else u.frames.free + 1))

/-- A fetcher read of a frame outside the imaging window list is answered with the blank byte in every byte, raises FETCH_BLANKED,
sets FETCH_FAULT and spoils the sheet of every open face FETCH; no frame changes (R44). -/
def Obligations.FetchBlanked : Prop :=
  ∀ s u r n, s.settle = u → u.hears r.master → r.master = .fetcher → r.enables ≠ 0 → u.region r.line = .frame n →
    u.frames.inWindow n = false →
    ∃ line, exec (.busRead r) s = .next
      { u with
        bus := u.bus.setPort .fetcher (.answered (.data line))
        track := u.frames.openSheets.foldl (fun t q => t.spoil q .fetch) u.track
        mirror := ({ u.mirror with fetchFault := true }).push ⟨.fetchBlanked n, u.clock.pathCount⟩ } ∧
    ∀ i, i < 32 → byteAt line i = u.setup.blankByte

/-- A release lowers a BOUND frame's count; at 0 the frame becomes READY and FRAME_RELEASED is raised with its generation. The
free-frame count, generation and toggle stay (R36). -/
def Obligations.ReleaseLowersCount : Prop :=
  ∀ s n k r, s.frames.at n = r → r.state = .bound → n < 64 →
    (r.count ≤ k → ∃ f, releaseOne s (n, k) = ({ s with frames := f }).reported (.frameReleased n r.generation) ∧
      f = { s.frames with table := f.table } ∧
      ∀ j, f.at j = if j = n then { r with state := .ready, count := 0 } else s.frames.at j) ∧
    (k < r.count → ∃ f, releaseOne s (n, k) = { s with frames := f } ∧
      f = { s.frames with table := f.table } ∧
      ∀ j, f.at j = if j = n then { r with count := r.count - k } else s.frames.at j)

/-- RELEASE_FRAME frees a READY frame, leaves a FREE one, and is refused for a BOUND frame or a number at or above the frame
count, whatever the path state (R39). -/
def Obligations.ReleaseFrameRequest : Prop :=
  ∀ s u m a b x v r, s.settle = u → u.takesRequest m b → u.requestTaken m 9 a b x = v →
    u.frames.at a.toNat = r → u.setup.frameCount ≤ 64 →
    (u.setup.frameCount ≤ a.toNat → exec (.releaseFrame m a b x) s = .next (v.reported (.requestRefused 9 u.seqr.path))) ∧
    (a.toNat < u.setup.frameCount →
      (r.state = .free → exec (.releaseFrame m a b x) s = .next v) ∧
      (r.state = .bound →
        exec (.releaseFrame m a b x) s = .next (v.reported (.requestRefused 9 u.seqr.path))) ∧
      (r.state = .ready → ∃ f, exec (.releaseFrame m a b x) s = .next { v with frames := f } ∧
        (∀ j, f.at j = if j = a.toNat then { r with state := .free } else u.frames.at j) ∧
        f.free = u.frames.free + 1 ∧ f.window = u.frames.window ∧
        f.hold = if f.free ≤ u.setup.paceLow then true else if u.setup.paceHigh ≤ f.free then false
          else u.frames.hold))

/-! ## Orders -/

/-- A post that passes every check is accepted as a write and as an order: each named frame is BOUND with its count raised by the
references the order needs (R35), slot PENDING and at the queue's tail, E_post one on, the posted position updated (a closed
one holds 0, 0 and A, which have no meaning: log 31); in STANDBY with the cover closed the path starts (R60, R100). -/
def Obligations.PostAccepted : Prop :=
  ∀ s u w k copy o q, s.settle = u → u.hears w.master → w.master ≠ .fetcher → u.hasPlace w →
    u.region w.line = .staging k → k < 32 → (u.orders.slot k).pending = false → isPost w = true →
    mergeLine (u.orders.slot k).latched w.data w.enables = copy → orderOfLine copy = o → postCheck u copy = none →
    (if u.orders.queue = [] then { u.seqr with idleCtr := 0 } else u.seqr) = q →
    ∃ t, exec (.busWrite w) s = .next t ∧
      t = { u with
        bus := (u.bus.accept w).setPort w.master (.answered .completion)
        frames := { u.frames with table := t.frames.table }
        orders := t.orders
        clock := t.clock
        seqr := t.seqr
        mirror := t.mirror } ∧
      (∀ n, t.frames.at n =
        if o.refsOn n = 0 then u.frames.at n
        else { u.frames.at n with state := .bound, count := (u.frames.at n).count + o.refsOn n }) ∧
      (u.seqr.path ≠ .standby ∨ u.pins.coverClosed = false →
        t.clock = u.clock ∧ t.seqr = q ∧ t.mirror = u.mirror) ∧
      (u.seqr.path = .standby → u.pins.coverClosed = true →
        t.clock = { u.clock with pitchRem := 0 } ∧
        t.seqr = { q with path := .starting, startCtr := 0, stallCtr := 0, motionSeen := false } ∧
        t.mirror = u.mirror.push ⟨.stateChange .starting, u.clock.pathCount⟩) ∧
      t.orders.queue = u.orders.queue ++ [k] ∧ t.orders.ePost = u.orders.ePost + 1 ∧
      t.orders.launched = u.orders.launched ∧
      t.orders.posted = (if o.lastOfSet then ⟨false, 0, 0, .a, true⟩
        else ⟨true, o.setNumber, o.setIndex, o.dest, true⟩) ∧
      ∀ j, t.orders.slot j = if j = k then ⟨true, copy⟩ else u.orders.slot j

/-- Writes to a staging slot that post no order. A post that fails a check is accepted as a write, its bytes latched, and refused
with the first failing reason: sequence, set, form, stale frame, full frame; a post to a PENDING slot is aborted with SLOT_BUSY
(R52, R54). A write that is no post, to an EMPTY slot, is accepted: its bytes are latched, the slot stays EMPTY, and nothing else
of the order stage changes (R51). -/
def Obligations.PostRefused : Prop :=
  ∀ s u w k copy o, s.settle = u → u.hears w.master → w.master ≠ .fetcher → w.enables ≠ 0 → u.hasPlace w →
    u.region w.line = .staging k → k < 32 →
    mergeLine (u.orders.slot k).latched w.data w.enables = copy → orderOfLine copy = o →
    (isPost w = true → (u.orders.slot k).pending = true → exec (.busWrite w) s = .next
      (({ u with bus := u.bus.setPort w.master (.answered .abort) }).reported (.orderRefused .slotBusy k))) ∧
    ((u.orders.slot k).pending = false →
      ∃ slots, (∀ j, ({ u.orders with slots := slots }).slot j = if j = k then ⟨false, copy⟩ else u.orders.slot j) ∧
        (isPost w = false → exec (.busWrite w) s = .next
          { u with
            bus := (u.bus.accept w).setPort w.master (.answered .completion)
            orders := { u.orders with slots := slots } }) ∧
        (isPost w = true → ∀ reason,
          (reason = .sequenceGap ∧ o.seq ≠ u.orders.ePost ∨
           reason = .setBreak ∧ o.seq = u.orders.ePost ∧ setContinues u.orders.posted copy = false ∨
           reason = .form ∧ o.seq = u.orders.ePost ∧ setContinues u.orders.posted copy = true ∧
            formValid u.setup.frameCount copy = false ∨
           reason = .frameStale ∧ o.seq = u.orders.ePost ∧ setContinues u.orders.posted copy = true ∧
            formValid u.setup.frameCount copy = true ∧ (∃ f ∈ o.names, u.frames.stale f = true) ∨
           reason = .frameFull ∧ o.seq = u.orders.ePost ∧ setContinues u.orders.posted copy = true ∧
            formValid u.setup.frameCount copy = true ∧ (∀ f ∈ o.names, u.frames.stale f = false) ∧
            ∃ need ∈ o.needs, 255 < (u.frames.at need.1).count + need.2) →
          exec (.busWrite w) s = .next
            (({ u with
              bus := (u.bus.accept w).setPort w.master (.answered .completion)
              orders := { u.orders with slots := slots } }).reported (.orderRefused reason k))))

/-- CANCEL_PENDING in IDLE, STANDBY and JAMMED empties the queue and its slots, sets E_post back to the first cancelled sequence
and the posted position to the launched one, and gives back every reference of the orders, head first: a frame whose count
reaches 0 is READY, with FRAME_RELEASED in the order in which the counts reach it; elsewhere it is refused (R36, R63). -/
def Obligations.CancelPendingTakesBack : Prop :=
  ∀ s u m a b x v, s.settle = u → u.takesRequest m b → u.requestTaken m 6 a b x = v →
    (u.seqr.path = .starting ∨ u.seqr.path = .running ∨ u.seqr.path = .draining →
      exec (.cancelPending m a b x) s = .next (v.reported (.requestRefused 6 u.seqr.path))) ∧
    (u.seqr.path = .idle ∨ u.seqr.path = .standby ∨ u.seqr.path = .jammed →
      (u.orders.queue = [] → exec (.cancelPending m a b x) s = .next v) ∧
      (∀ k rest needs, u.orders.queue = k :: rest → FrameInv u → PendingInv u →
        needs = u.orders.queue.flatMap (fun j => (orderOfLine (u.orders.slot j).latched).needs) →
        ∃ t, exec (.cancelPending m a b x) s = .next t ∧
          t = { v with frames := t.frames, orders := t.orders, mirror := t.mirror } ∧
          t.orders.queue = [] ∧ t.orders.ePost = (orderOfLine (u.orders.slot k).latched).seq ∧
          t.orders.posted = u.orders.launched ∧ t.orders.launched = u.orders.launched ∧
          (∀ j, t.orders.slot j = { u.orders.slot j with pending := false }) ∧
          t.frames = { u.frames with table := t.frames.table } ∧
          (∀ n r, u.frames.at n = r → t.frames.at n =
            { r with
              state := if r.state = .bound ∧ r.count ≤ refsIn needs n then .ready else r.state
              count := r.count - refsIn needs n }) ∧
          t.mirror = (u.frames.releasedBy needs).foldl (fun m' e => m'.push ⟨e, u.clock.pathCount⟩) v.mirror))

/-! ## Path clock -/

/-- An encoder pulse advances the path count in every armed state and clears the stall counter; driven travel advances the pitch
remainder, and at P the pitch number with a pitch tick; before arming nothing changes (R68, R69, R70, R93). -/
def Obligations.EncPulseCounts : Prop :=
  ∀ s u : State, s.settle = u →
    (u.inReset = true ∨ u.armed = false → exec .encPulse s = .next u) ∧
    (u.inReset = false → u.armed = true →
      exec .encPulse s = .next
        { u with
          clock :=
            if u.driven = false then { u.clock with pathCount := u.clock.pathCount + 1 }
            else if u.clock.pitchRem + 1 < u.setup.pitch then
              { u.clock with pathCount := u.clock.pathCount + 1, pitchRem := u.clock.pitchRem + 1 }
            else
              { u.clock with
                pathCount := u.clock.pathCount + 1
                pitchRem := 0
                pitchNo := u.clock.pitchNo + 1
                tick := some ⟨u.clock.pitchNo + 1, u.clock.pathCount + 1, u.seqr.path == .running⟩ }
          seqr := { u.seqr with stallCtr := 0 } })

/-- A filter's five cases at a sample (R74), with filter length `f`, path count `c`, sample `level` and the filter `x` before. -/
def Obligations.FilterSampleTable : Prop :=
  ∀ (f : Nat) (c : PathCount) (level : Bool) (x : Sys2Proof.Machine.Filter), 1 ≤ f →
    (level = x.level → x.sample f c level = (⟨x.level, none⟩, none)) ∧
    (level ≠ x.level → x.change = none → f = 1 → x.sample f c level = (⟨level, none⟩, some c)) ∧
    (level ≠ x.level → x.change = none → 1 < f → x.sample f c level = (⟨x.level, some ⟨1, c⟩⟩, none)) ∧
    (∀ p, level ≠ x.level → x.change = some p → p.count + 1 < f →
      x.sample f c level = (⟨x.level, some ⟨p.count + 1, p.stamp⟩⟩, none)) ∧
    (∀ p, level ≠ x.level → x.change = some p → f ≤ p.count + 1 →
      x.sample f c level = (⟨level, none⟩, some p.stamp))

/-- A tick samples every filter, hands the accepted changes on as edges in the driven states alone, and advances the counters that
run, each up to its limit (R71, R74, R76, R92, R93, R98). -/
def Obligations.TickSamples : Prop :=
  ∀ s u levels, s.settle = u →
    (u.inReset = true ∨ u.armed = false → exec (.tick levels) s = .next u) ∧
    (u.inReset = false → u.armed = true →
      ∃ t, exec (.tick levels) s = .next t ∧
        t = { u with
          clock := { u.clock with filters := t.clock.filters, edges := t.clock.edges }
          seqr :=
            { u.seqr with
              startCtr := if u.seqr.path = .starting then min (u.seqr.startCtr + 1) u.setup.startLimit
                else u.seqr.startCtr
              stallCtr := if u.driven then min (u.seqr.stallCtr + 1) u.setup.stallLimit else u.seqr.stallCtr
              idleCtr :=
                if u.seqr.path = .running ∧ u.nothingToDo = true ∧ u.setup.idleLimit ≠ 0 then
                  min (u.seqr.idleCtr + 1) u.setup.idleLimit
                else u.seqr.idleCtr } } ∧
        (∀ sn : Sensor, t.clock.filters[sn.idx] =
          (u.clock.filters[sn.idx].sample u.setup.filterLength u.clock.pathCount (levels.get sn)).1) ∧
        (u.driven = false → t.clock.edges = u.clock.edges) ∧
        (u.driven = true → ∀ e, e ∈ t.clock.edges ↔ e ∈ u.clock.edges ∨
          (u.clock.filters[e.sensor.idx].sample u.setup.filterLength u.clock.pathCount (levels.get e.sensor)).2 =
              some e.stamp ∧ e.leading = levels.get e.sensor))

/-! ## Path states -/

/-- RUN starts the path from IDLE or STANDBY with the cover closed, is a no-op in STARTING and RUNNING, and is refused otherwise
(R90). -/
def Obligations.RunStarts : Prop :=
  ∀ s u m a b x v, s.settle = u → u.takesRequest m b → u.requestTaken m 1 a b x = v →
    (u.seqr.path = .idle ∨ u.seqr.path = .standby →
      exec (.run m a b x) s = .next
        (if u.pins.coverClosed then v.started else v.reported (.requestRefused 1 u.seqr.path))) ∧
    (u.seqr.path = .starting ∨ u.seqr.path = .running → exec (.run m a b x) s = .next v) ∧
    (u.seqr.path = .draining ∨ u.seqr.path = .jammed →
      exec (.run m a b x) s = .next (v.reported (.requestRefused 1 u.seqr.path)))

/-- DRAIN enters DRAINING from STARTING and RUNNING, and IDLE in the same acceptance when no sheet is in the table; it takes
STANDBY to IDLE, is a no-op in IDLE and DRAINING, and is refused in JAMMED (R97). -/
def Obligations.DrainEmpties : Prop :=
  ∀ s u m a b x v d, s.settle = u → u.takesRequest m b → u.requestTaken m 2 a b x = v →
    d = ({ v with seqr := { v.seqr with startCtr := 0, idleCtr := 0 } }).nowIn .draining →
    (u.seqr.path = .starting ∨ u.seqr.path = .running →
      exec (.drain m a b x) s = .next (if u.track.table = [] then d.stoppedIn .idle else d)) ∧
    (u.seqr.path = .standby → exec (.drain m a b x) s = .next (v.stoppedIn .idle)) ∧
    (u.seqr.path = .idle ∨ u.seqr.path = .draining → exec (.drain m a b x) s = .next v) ∧
    (u.seqr.path = .jammed → exec (.drain m a b x) s = .next (v.reported (.requestRefused 2 u.seqr.path)))

/-- The idle expiry and the STANDBY request take an empty RUNNING path to STANDBY; a request is declined while any collection holds
an order, a no-op in STANDBY, and refused in the other states (R98, R99). -/
def Obligations.StandbyEntered : Prop :=
  ∀ s u m a b x v, s.settle = u →
    (s.seqr.path = .running → s.nothingToDo = true → s.setup.idleLimit ≠ 0 → s.setup.idleLimit ≤ s.seqr.idleCtr →
      exec .idleExpiry s = .next (s.stoppedIn .standby)) ∧
    (u.takesRequest m b → u.requestTaken m 5 a b x = v →
      (u.seqr.path = .running → exec (.standby m a b x) s = .next
        (if u.orders.queue = [] ∧ u.reprint = [] ∧ u.track.table = [] then v.stoppedIn .standby
          else v.reported .standbyDeclined)) ∧
      (u.seqr.path = .standby → exec (.standby m a b x) s = .next v) ∧
      (u.seqr.path ∈ [.idle, .starting, .draining, .jammed] →
        exec (.standby m a b x) s = .next (v.reported (.requestRefused 5 u.seqr.path))))

/-- RESUME takes a clear JAMMED path to IDLE; with a sensor filtered high it is refused with the first such sensor, with the cover
open alone with none; in any other state it is refused as a request (R101). -/
def Obligations.ResumeRecovers : Prop :=
  ∀ s u m a b x v, s.settle = u → u.takesRequest m b → u.requestTaken m 4 a b x = v →
    (u.seqr.path = .jammed →
      ((∀ sn : Sensor, (u.clock.filters[sn.idx]).level = false) →
        exec (.resume m a b x) s = .next
          (if u.pins.coverClosed then v.stoppedIn .idle else v.reported (.resumeRefused none))) ∧
      (∀ sn : Sensor, (u.clock.filters[sn.idx]).level = true →
        (∀ other : Sensor, other.idx < sn.idx → (u.clock.filters[other.idx]).level = false) →
        exec (.resume m a b x) s = .next (v.reported (.resumeRefused (some sn))))) ∧
    (u.seqr.path ≠ .jammed → exec (.resume m a b x) s = .next (v.reported (.requestRefused 4 u.seqr.path)))

/-- HALT, START_FAIL, STALL and the fall of COVER_CLOSED jam a driven path, each with its code, no station, no sequence and the
path count as its stamp; HALT elsewhere is refused and a cover fall changes the level alone (R92 to R96, R154, R155). -/
def Obligations.PathJams : Prop :=
  ∀ s u m a b x v, s.settle = u →
    (u.takesRequest m b → u.requestTaken m 3 a b x = v →
      exec (.halt m a b x) s = .next
        (if u.driven then v.jammedWith ⟨.halt, none, none, u.clock.pathCount⟩
          else v.reported (.requestRefused 3 u.seqr.path))) ∧
    (s.seqr.path = .starting → s.setup.startLimit ≤ s.seqr.startCtr →
      exec .startFail s = .next (s.jammedWith ⟨.startFail, none, none, s.clock.pathCount⟩)) ∧
    (s.driven = true → s.setup.stallLimit ≤ s.seqr.stallCtr →
      exec .stall s = .next (s.jammedWith ⟨.stall, none, none, s.clock.pathCount⟩)) ∧
    (u.inReset = false → exec .coverClosedFall s = .next
      (if u.driven then
        ({ u with pins := { u.pins with coverClosed := false } }).jammedWith ⟨.cover, none, none, u.clock.pathCount⟩
       else { u with pins := { u.pins with coverClosed := false } }))

/-- PATH_RESET in IDLE, STANDBY and JAMMED clears the sheet-flow state in one acceptance: every count 0 and every BOUND frame READY,
the three collections empty, E_post and D_gate at D_del; FRAME_RELEASED follows for each BOUND
frame in ascending number, then from STANDBY and JAMMED STATE_CHANGE(IDLE); elsewhere it is refused (R38, R65, R102, R104, R162). The
closed set positions hold 0, 0 and A (log 31). -/
def Obligations.PathResetClears : Prop :=
  ∀ s u m a b x v, s.settle = u → u.takesRequest m b → u.requestTaken m 7 a b x = v →
    (u.driven = true → exec (.pathReset m a b x) s = .next (v.reported (.requestRefused 7 u.seqr.path))) ∧
    (u.driven = false → ∃ t, exec (.pathReset m a b x) s = .next t ∧
      t = { v with
        frames := { u.frames with table := t.frames.table, window := [] }
        orders :=
          { slots := u.orders.slots.map fun y => { y with pending := false }
            queue := []
            ePost := u.track.dDel
            posted := .unanchored
            launched := .unanchored }
        seqr := { Sequencer.reset .idle with jam := u.seqr.jam }
        launch := { u.launch with calendar := Vector.replicate 64 none, lastExit := none, lastDest := none }
        track :=
          { Tracking.reset u.track.dDel with
            purgeGate := u.track.purgeGate, jogB := u.track.jogB, divertLoop := u.track.divertLoop }
        reprint := []
        mirror := t.mirror } ∧
      (∀ n, t.frames.at n =
        { u.frames.at n with
          state := if (u.frames.at n).state = .bound then .ready else (u.frames.at n).state
          count := 0 }) ∧
      t.mirror =
        let released := (List.range 64).foldl (fun m n =>
          if (u.frames.at n).state = .bound then
            m.push ⟨.frameReleased n (u.frames.at n).generation, u.clock.pathCount⟩
          else m) v.mirror
        if u.seqr.path = .idle then released else released.push ⟨.stateChange .idle, u.clock.pathCount⟩)

/-- The path enters RUNNING at a pitch tick with FUSER_READY high, or at the rise of FUSER_READY once motion was seen; a tick with
the fuser not ready sets the motion-seen flag alone (R91). A tick launches nothing in DRAINING, nor in RUNNING when it occurred
before the path was RUNNING, without a candidate, or when the candidate fails the test; 64 pitches after the last exit slot, last
exit and last destination become none (R70, R108 to R110). That the motion-seen flag is still set after the entry to
RUNNING is read from the rules' silence (DEDUCED, log 27). -/
def Obligations.RunningEntered : Prop :=
  ∀ (s u idle : State) (p : PitchTick) (l : Launch), s.settle = u →
    l = (match s.launch.lastExit with
      | some e => if p.number = e + 64 then { s.launch with lastExit := none, lastDest := none } else s.launch
      | none => s.launch) →
    idle = { s with clock := { s.clock with tick := none }, launch := l } →
    (s.clock.tick = some p →
      (s.seqr.path = .draining → exec .pitchTick s = .next idle) ∧
      (s.seqr.path = .starting → exec .pitchTick s = .next
        (if s.pins.fuserReady then
          ({ idle with seqr := { s.seqr with startCtr := 0, idleCtr := 0, motionSeen := true } }).nowIn .running
         else { idle with seqr := { s.seqr with motionSeen := true } })) ∧
      (s.seqr.path = .running →
        (p.running = false ∨ 16 ≤ s.track.table.length ∨
          (s.reprint = [] ∧ (s.orders.queue = [] ∨ ∃ y ∈ s.track.table, y.phase = .decided .purge)) ∨
          ∃ o e, ((∃ c rest, s.reprint = c :: rest ∧ o = c.order) ∨
              (s.reprint = [] ∧ ∃ k rest, s.orders.queue = k :: rest ∧ o = orderOfLine (s.orders.slot k).latched)) ∧
            e = s.setup.exitSlot p.number o.sides ∧
            (s.pins.trayEmpty[o.tray] = true ∨ s.launch.stalled[o.tray] = true ∨ s.pins.stackFull o.dest = true ∨
             s.launch.slotFree (s.setup.frontSlot p.number) = false ∨
             (∃ b, s.setup.backSlot p.number o.sides = some b ∧ s.launch.slotFree b = false) ∨
             ∃ y, l.lastExit = some y ∧ (isAfter e y = false ∨
               (l.lastDest ≠ some o.dest ∧
                isAtOrAfter e (y + BitVec.ofNat 16 (1 + s.setup.gateTravel)) = false)))) →
        exec .pitchTick s = .next idle)) ∧
    (u.inReset = false → exec .fuserReadyRise s = .next
      (if u.seqr.path = .starting ∧ u.seqr.motionSeen = true then
        ({ u with
          pins := { u.pins with fuserReady := true }
          seqr := { u.seqr with startCtr := 0, idleCtr := 0 } }).nowIn .running
       else { u with pins := { u.pins with fuserReady := true } }))

/-! ## Launches -/

/-- At a launch opportunity the one candidate, the reprint list's head or else the pending queue's with no record diverted, is
launched when it passes conditions (a) to (g) of R110: record, FEED arrival, deadline, calendar, last exit (R105, R109, R114). A
launched position that the order closes holds 0, 0 and A, which have no meaning (log 31). -/
def Obligations.PitchTickLaunches : Prop :=
  ∀ (s : State) (p : PitchTick) (c : Candidate) (o : Order) (r : Record) (e : PitchNo) (l : Launch),
    s.clock.tick = some p → s.seqr.path = .running → p.running = true →
    l = (match s.launch.lastExit with
      | some y => if p.number = y + 64 then { s.launch with lastExit := none, lastDest := none } else s.launch
      | none => s.launch) →
    (match s.reprint with
      | y :: _ => c = Candidate.reprint y
      | [] => ∃ k rest, s.orders.queue = k :: rest ∧ c = .pending k (orderOfLine (s.orders.slot k).latched) ∧
          ∀ y ∈ s.track.table, y.phase ≠ .decided .purge) →
    c.copy.order = o → s.setup.exitSlot p.number o.sides = e →
    s.track.table.length < 16 →
    s.pins.trayEmpty[o.tray] = false → s.launch.stalled[o.tray] = false → s.pins.stackFull o.dest = false →
    s.launch.slotFree (s.setup.frontSlot p.number) = true →
    (∀ b, s.setup.backSlot p.number o.sides = some b → s.launch.slotFree b = true) →
    (∀ y, l.lastExit = some y → isAfter e y = true) →
    (∀ y, l.lastExit = some y → l.lastDest = some o.dest ∨
      isAtOrAfter e (y + BitVec.ofNat 16 (1 + s.setup.gateTravel)) = true) →
    r = { copy := c.copy, launchPitch := p.number, launchCount := p.count, frontSlot := s.setup.frontSlot p.number,
          backSlot := s.setup.backSlot p.number o.sides, exitSlot := e, nextVisit := some 1, leadStamp := none,
          measured := none, spoiled := none, phase := .feeding } →
    ∃ t, exec .pitchTick s = .next t ∧
      t = { s with
        clock := { s.clock with tick := none }
        seqr := if s.track.table = [] then { s.seqr with idleCtr := 0 } else s.seqr
        orders := t.orders
        reprint := s.reprint.tail
        launch := { s.launch with calendar := t.launch.calendar, lastExit := some e, lastDest := some o.dest }
        track :=
          { s.track with
            table := s.track.table ++ [r]
            arrivals := s.track.arrivals.set 0
              (insertArrival ⟨o.seq, s.setup.expected p.count 1⟩ s.track.arrivals[0])
            deadlines := s.track.deadlines ++
              [⟨s.setup.windowDeadline (s.setup.expected p.count 1), .windowClose, .feed, o.seq⟩] } } ∧
      (s.reprint ≠ [] → t.orders = s.orders) ∧
      (∀ k rest, s.reprint = [] → s.orders.queue = k :: rest →
        t.orders.queue = rest ∧ t.orders.ePost = s.orders.ePost ∧ t.orders.posted = s.orders.posted ∧
        t.orders.launched = (if o.lastOfSet then ⟨false, 0, 0, .a, true⟩
          else ⟨true, o.setNumber, o.setIndex, o.dest, true⟩) ∧
        ∀ j, t.orders.slot j = if j = k then { s.orders.slot j with pending := false } else s.orders.slot j) ∧
      ∀ i, i < 64 → t.launch.calendar[i]? =
        if r.backSlot.map calendarIndex = some i then some (some ⟨o.seq, .back⟩)
        else if calendarIndex r.frontSlot = i then some (some ⟨o.seq, .front⟩)
        else s.launch.calendar[i]?

/-- A misfeed removes the record from FEED's queue, the calendar and the table into the reprint list and raises MISFEED with the
deadline's value; above the pick retries the tray stalls with TRAY_STALLED (R117 to R119). A DRAINING path that this empties enters IDLE
(R97; log 18). -/
def Obligations.MisfeedReprints : Prop :=
  ∀ s d r q tray n, s.driven = true → s.track.deadlines.find? (fun y => y.owner == q &&
      (y.kind == .windowClose && y.sensor == .feed) && s.expires y) = some d → d.owner = q →
    s.track.find q = some r → r.copy.order.tray = tray → n = r.copy.misfeeds + 1 →
    ∃ t, exec (.misfeed q) s = .next
        (if s.seqr.path = .draining ∧ (∀ y ∈ s.track.table, y.seq = q) then t.stoppedIn .idle else t) ∧
      t = { s with
        seqr := t.seqr
        launch := { s.launch with calendar := t.launch.calendar, stalled := t.launch.stalled }
        track :=
          { s.track with
            table := s.track.table.filter fun y => y.seq != q
            arrivals := s.track.arrivals.set 0 (s.track.arrivals[0].filter fun y => y.seq != q)
            deadlines := s.track.deadlines.erase d }
        reprint := insertCopy
          (if n ≤ s.setup.pickRetries then { r.copy with misfeeds := n } else r.copy) s.reprint
        mirror :=
          if n ≤ s.setup.pickRetries then s.mirror.push ⟨.misfeed q tray n, d.value⟩
          else (s.mirror.push ⟨.misfeed q tray n, d.value⟩).push ⟨.trayStalled tray q, s.clock.pathCount⟩ } ∧
      t.seqr = (if s.reprint = [] then { s.seqr with idleCtr := 0 } else s.seqr) ∧
      t.launch.stalled =
        (if n ≤ s.setup.pickRetries then s.launch.stalled else s.launch.stalled.set tray true) ∧
      t.launch.calendar = s.launch.calendar.map fun (y : Option Face) => if y.map Face.seq = some q then none else y

/-- CLEAR_TRAY_STALL clears the tray's stall flag and the misfeed counts of its reprint entries, in every armed path state; a tray
above 3 is refused (R120). -/
def Obligations.TrayStallCleared : Prop :=
  ∀ s u m a b x v, s.settle = u → u.takesRequest m b → u.requestTaken m 8 a b x = v →
    (∀ tray : Tray, a.toNat = tray.val → exec (.clearTrayStall m a b x) s = .next
      { v with
        launch := { u.launch with stalled := u.launch.stalled.set tray false }
        reprint := u.reprint.map fun c => if c.order.tray = tray then { c with misfeeds := 0 } else c }) ∧
    (4 ≤ a.toNat → exec (.clearTrayStall m a b x) s = .next (v.reported (.requestRefused 8 u.seqr.path)))

/-! ## Tracking -/

/-- A leading edge within the window of its sensor's head matches it. The head leaves the queue and its window-close deadline is
withdrawn; it becomes the occupant with the edge's stamp, with a stuck deadline when it occupies no other sensor and its stuck
deadline left alone otherwise; it awaits its next visit, at its place by expected count, with the deadline of R84. Other
queues, occupants, deadlines and records stay (R124 to R127, R129).
Visit 1 makes the phase IN_PATH, a duplex sheet's visit 4 raises DIVERT_LOOP, and a REG visit opens its face's frame for imaging, or
with two faces open sets FETCH_FAULT and spoils the sheet FETCH (R40, R41, R128, R136, R137). -/
def Obligations.LeadingEdgeMatches : Prop :=
  ∀ s sn e h rest r v next o ahead, s.edgeNow sn true = some e → s.driven = true → s.track.queueAt sn = h :: rest →
    s.setup.classify e.stamp (s.setup.windowOpen h.expected) = .within → s.track.find h.seq = some r →
    r.nextVisit = some v → visitAfter r.copy.order.sides v = next → next.bind (routeVisit r.copy.order.sides) = ahead →
    o = (⟨h.seq, v, e.stamp, r.launchCount, r.copy.order.length⟩ : Occupancy) →
    ∃ t r', exec (.leadingEdge sn) s = .next t ∧
      t.clock = { s.clock with edges := s.clock.edges.erase e } ∧
      t.track.occupants = s.track.occupants.set sn.idx (some o) ∧
      (∀ other q0, q0 = (if other = sn then rest else s.track.queueAt other) →
        ((∀ k, ahead ≠ some (other, k)) → t.track.queueAt other = q0) ∧
        ∀ k a, ahead = some (other, k) → a = (⟨h.seq, s.setup.expected r.launchCount k⟩ : Arrival) →
          ∃ before after, q0 = before ++ after ∧ t.track.queueAt other = before ++ a :: after ∧
            (∀ y ∈ before, isAfter y.expected a.expected = false) ∧
            ∀ y, after.head? = some y → isAfter y.expected a.expected = true) ∧
      (∀ stuck,
        ((∀ other x, s.track.occupant other = some x → ¬ (x.seq = h.seq ∧ x.launch = r.launchCount)) →
          stuck = [⟨e.stamp + BitVec.ofNat 24 (r.copy.order.length + s.setup.stuckMargin), .stuck, sn, h.seq⟩]) →
        ((∃ other x, s.track.occupant other = some x ∧ x.seq = h.seq ∧ x.launch = r.launchCount) → stuck = []) →
        t.track.deadlines =
          s.track.deadlines.filter (fun d => !(d.kind == .windowClose && d.owner == h.seq)) ++ stuck ++
            ahead.toList.map fun x =>
              ⟨s.setup.windowDeadline (s.setup.expected r.launchCount x.2), .windowClose, x.1, h.seq⟩) ∧
      t.track.find h.seq = some r' ∧
      r' = { r with leadStamp := some e.stamp, nextVisit := next, phase := r'.phase, spoiled := r'.spoiled } ∧
      t.track.table.map Record.seq = s.track.table.map Record.seq ∧
      ((∀ d, r.phase ≠ .decided d) →
        (∀ q, q ≠ h.seq → t.track.find q = s.track.find q) ∧
        (¬ r.copy.order.sides.finalFuse v → (v ≠ 1 → r'.phase = r.phase) ∧ t.track.gateQueue = s.track.gateQueue ∧
          t.track.dGate = s.track.dGate ∧ t.track.purgeGate = s.track.purgeGate ∧ t.track.jogB = s.track.jogB)) ∧
      t.track.dDel = s.track.dDel ∧
      t.seqr = s.seqr ∧ t.orders = s.orders ∧ t.bus = s.bus ∧ t.latch = s.latch ∧ t.reprint = s.reprint ∧
      t.launch = s.launch ∧ t.pins = s.pins ∧
      (v = 1 → r'.phase = .inPath) ∧
      (v = 4 → r.copy.order.sides = .duplex → t.track.divertLoop = true) ∧
      (v ≠ 4 → v ≠ 8 → t.track.divertLoop = s.track.divertLoop) ∧
      ((∀ side ref, ¬ r.copy.order.asksOpen v side ref) →
        t.frames = s.frames ∧ t.mirror = s.mirror ∧ r'.spoiled = r.spoiled) ∧
      ∀ side ref, r.copy.order.asksOpen v side ref →
        (2 ≤ s.frames.openFaces →
          t.frames = s.frames ∧ t.mirror = { s.mirror with fetchFault := true } ∧
          r'.spoiled = some (r.spoiled.getD .fetch)) ∧
        (s.frames.openFaces < 2 → t.mirror = s.mirror ∧ r'.spoiled = r.spoiled ∧ t.frames = { s.frames with
          window :=
            if s.frames.inWindow ref.frame then
              s.frames.window.map fun w =>
                if w.frame = ref.frame then { w with faces := w.faces ++ [⟨h.seq, side⟩] } else w
            else s.frames.window ++ [⟨ref.frame, [⟨h.seq, side⟩]⟩] })

/-- The gate decision at a simplex sheet's FUSE leading edge or a duplex sheet's final one: good, with D_gate one on, for an unspoiled
sheet whose sequence is D_gate; PURGE otherwise. The sheet joins the gate queue and DIVERT_LOOP falls (R137, R139, R140). -/
def Obligations.GateDecisionTaken : Prop :=
  ∀ s e h rest r d, s.edgeNow .fuse true = some e → s.driven = true → s.track.queueAt .fuse = h :: rest →
    s.setup.classify e.stamp (s.setup.windowOpen h.expected) = .within → s.track.find h.seq = some r →
    (r.copy.order.sides = .simplex ∧ r.nextVisit = some 4 ∨ r.copy.order.sides = .duplex ∧ r.nextVisit = some 8) →
    d = (if r.spoiled = none ∧ h.seq = s.track.dGate then .good r.copy.order.dest else .purge) →
    ∃ t, exec (.leadingEdge .fuse) s = .next t ∧
      t.track.decisionOf h.seq = some d ∧ t.track.divertLoop = false ∧
      t.track.gateQueue = s.track.gateQueue ++ [h.seq] ∧
      t.track.dGate = (if d = .purge then s.track.dGate else s.track.dGate + 1) ∧ t.track.dDel = s.track.dDel ∧
      t.mirror = s.mirror ∧
      (s.track.gateQueue ≠ [] → t.track.purgeGate = s.track.purgeGate ∧ t.track.jogB = s.track.jogB) ∧
      (s.track.gateQueue = [] →
        (t.track.purgeGate, t.track.jogB) =
          match d with
          | .good .a => (false, false)
          | .good .b => (false, true)
          | .purge => (true, s.track.jogB))

/-- An edge without an owner jams UNEXPECTED, a leading edge before the head's window EARLY, an expired window on another sensor than
FEED LATE, an expired stuck deadline STUCK; each with station, sequence and stamp, and the freeze (R126, R130, R132, R133). -/
def Obligations.TrackingJams : Prop :=
  ∀ s : State, s.driven = true →
    (∀ sn e s', s.edgeNow sn true = some e → s' = { s with clock := { s.clock with edges := s.clock.edges.erase e } } →
      (s.track.queueAt sn = [] →
        exec (.leadingEdge sn) s = .next (s'.jammedWith ⟨.unexpected, some sn, none, e.stamp⟩)) ∧
      (∀ h rest, s.track.queueAt sn = h :: rest →
        s.setup.classify e.stamp (s.setup.windowOpen h.expected) = .before →
        exec (.leadingEdge sn) s = .next (s'.jammedWith ⟨.early, some sn, some h.seq, e.stamp⟩))) ∧
    (∀ sn e s', s.edgeNow sn false = some e → s' = { s with clock := { s.clock with edges := s.clock.edges.erase e } } →
      s.track.occupant sn = none →
      exec (.trailingEdge sn) s = .next (s'.jammedWith ⟨.unexpected, some sn, none, e.stamp⟩)) ∧
    (∀ q d, s.track.deadlines.find? (fun y => y.owner == q && (y.kind == .windowClose && y.sensor != .feed) &&
        s.expires y) = some d → d.owner = q →
      exec (.late q) s = .next (s.jammedWith ⟨.late, some d.sensor, some q, d.value⟩)) ∧
    (∀ q d, s.track.deadlines.find? (fun y => y.owner == q && y.kind == .stuck && s.expires y) = some d → d.owner = q →
      exec (.stuck q) s = .next (s.jammedWith ⟨.stuck, some d.sensor, some q, d.value⟩))

/-- A trailing edge empties its sensor's entry, and the stuck deadline is withdrawn, moved or left by R129's cases. FEED sets the
measured length, and beyond the tolerance the sheet is spoiled LENGTH; XFER closes the face and frees its calendar slot; REG,
FUSE and LOOP have no action (R85, R129 to R131, R136). For a record that has left the table there is no action (log 30). -/
def Obligations.TrailingEdgeActs : Prop :=
  ∀ s sn e o clock, s.edgeNow sn false = some e → s.driven = true → s.track.occupant sn = some o →
    clock = { s.clock with edges := s.clock.edges.erase e } →
    ∃ ds t0, StuckFollows s.setup s.track sn o ds ∧
      t0 = { s.track with occupants := s.track.occupants.set sn.idx none, deadlines := ds } ∧
      ((∀ r, s.track.find o.seq = some r → r.launchCount ≠ o.launch) →
        exec (.trailingEdge sn) s = .next { s with clock := clock, track := t0 }) ∧
      ∀ r m, s.track.find o.seq = some r → r.launchCount = o.launch → m = (e.stamp - o.stamp).toNat →
        (sn = .feed → exec (.trailingEdge sn) s = .next
          { s with
            clock := clock
            track :=
              if m ≤ r.copy.order.length + s.setup.tolerance ∧ r.copy.order.length ≤ m + s.setup.tolerance then
                t0.modify o.seq fun y => { y with measured := some m }
              else (t0.modify o.seq fun y => { y with measured := some m }).spoil o.seq .length }) ∧
        (sn = .reg ∨ sn = .fuse ∨ sn = .loop →
          exec (.trailingEdge sn) s = .next { s with clock := clock, track := t0 }) ∧
        (sn = .xfer → ∀ face, face = ⟨o.seq, if o.visit = 3 then .front else .back⟩ →
          exec (.trailingEdge sn) s = .next
            { s with
              clock := clock
              track := t0
              frames :=
                { s.frames with
                  window := List.filter (fun w => !w.faces.isEmpty)
                    (s.frames.window.map fun w => { w with faces := w.faces.filter fun f => f != face }) }
              launch :=
                { s.launch with calendar := s.launch.calendar.map fun y => if y = some face then none else y } })

/-- An EXIT trailing edge delivers a good sheet (D_del and the delivery record advance, SHEET_DELIVERED, references released) and
diverts a PURGE one into the reprint list (SHEET_DIVERTED with the spoil reason or OUT_OF_SEQUENCE). The record leaves the table
and the gate queue; when it was the head, the lines take the new head's levels, and with none are kept (R140); a face of it still
open is closed and a slot that holds one freed (R106, R136). Another occupancy of it stays, with the stuck deadline that R129
moves to it (log 30). A DRAINING path that this empties enters IDLE (R97, R143, R144; log 18). -/
def Obligations.ExitEdgeDelivers : Prop :=
  ∀ s e o r q gate purge jog (last : Bool), s.edgeNow .exit false = some e → s.driven = true →
    (last = true ↔ s.seqr.path = .draining ∧ ∀ y ∈ s.track.table, y.seq = q) → s.track.occupant .exit = some o →
    s.track.find o.seq = some r → r.launchCount = o.launch → o.seq = q →
    gate = s.track.gateQueue.filter (fun y => y != q) →
    (s.track.gateQueue.head? ≠ some q ∨ gate = [] → (purge, jog) = (s.track.purgeGate, s.track.jogB)) →
    (∀ x tail, s.track.gateQueue.head? = some q → gate = x :: tail →
      (purge, jog) = gateLevels (s.track.decisionOf x) s.track.purgeGate s.track.jogB) →
    ∃ (ds : List Deadline) (left : State), StuckFollows s.setup s.track .exit o ds ∧
      left = { s with
        clock := { s.clock with edges := s.clock.edges.erase e }
        track :=
          { s.track with
            table := s.track.table.filter fun y => y.seq != q
            occupants := s.track.occupants.set Sensor.exit.idx none
            deadlines := ds
            gateQueue := gate
            purgeGate := purge
            jogB := jog }
        frames :=
          { s.frames with
            window := List.filter (fun w => !w.faces.isEmpty)
              (s.frames.window.map fun w => { w with faces := w.faces.filter fun f => f.seq != q }) }
        launch :=
          { s.launch with
            calendar := s.launch.calendar.map fun (y : Option Face) =>
              if y.map Face.seq = some q then none else y } } ∧
      (∀ stack s1, r.phase = .decided (.good stack) →
        s1 = { left with
          latch := { s.latch with recordValid := true, recordSeq := q }
          track := { left.track with dDel := q + 1 }
          mirror := s.mirror.push ⟨.sheetDelivered q stack r.copy.order.lastOfSet, e.stamp⟩ } →
        exec (.trailingEdge .exit) s = .next
          (if last then (s1.release r.copy.order).stoppedIn .idle else s1.release r.copy.order)) ∧
      (∀ s1, r.phase = .decided .purge →
        s1 = { left with
          reprint := insertCopy r.copy s.reprint
          seqr := if s.reprint = [] then { s.seqr with idleCtr := 0 } else s.seqr
          mirror := s.mirror.push
            ⟨.sheetDiverted q (match r.spoiled with | some y => .spoiled y | none => .outOfSequence), e.stamp⟩ } →
        exec (.trailingEdge .exit) s = .next (if last then s1.stoppedIn .idle else s1))

/-- A spoiling marks an unspoiled record with its reason and leaves a spoiled one; reaching a good decision it is late: the record and
every good one behind it become PURGE, D_gate is set back, and PURGE_GATE rises for the head (R46, R135, R141). -/
def Obligations.SpoilingMarks : Prop :=
  ∀ t q w r, Tracking.find t q = some r →
    (r.spoiled ≠ none → t.spoil q w = t) ∧
    (r.spoiled = none → (∀ d, r.phase ≠ .decided (.good d)) →
      t.spoil q w = t.modify q fun y => { y with spoiled := some w }) ∧
    (∀ stack before after, r.spoiled = none → r.phase = .decided (.good stack) →
      t.gateQueue = before ++ q :: after → q ∉ before →
      (∃ r', (t.spoil q w).find q = some r' ∧ r'.spoiled = some w ∧ r'.phase = .decided .purge) ∧
      (t.spoil q w).dGate = q ∧ (t.spoil q w).dDel = t.dDel ∧ (t.spoil q w).gateQueue = t.gateQueue ∧
      (∀ y ∈ after, ∀ k, t.decisionOf y = some (.good k) → (t.spoil q w).decisionOf y = some .purge) ∧
      (∀ y ∈ before, y ∉ after → (t.spoil q w).decisionOf y = t.decisionOf y) ∧
      (t.spoil q w).purgeGate = (if before = [] then true else t.purgeGate))

/-! ## Mirror, inputs -/

/-- A named latched condition is cleared, the others and every event stay, by CLEAR_STANDING and by the clear-standing word (R169). -/
def Obligations.StandingCleared : Prop :=
  ∀ s u m a b x set rest, s.settle = u →
    (u.takesRequest m b → ∃ v, u.requestTaken m 10 a b x = v ∧ exec (.clearStanding m a b x) s = .next
      { v with mirror :=
        { v.mirror with
          fetchFault := u.mirror.fetchFault && !a.getLsbD 0
          guardSeen := u.mirror.guardSeen && !a.getLsbD 1
          rangeSeen := u.mirror.rangeSeen && !a.getLsbD 2
          memoryFault := u.mirror.memoryFault && !a.getLsbD 3
          eventOverrun := u.mirror.eventOverrun && !a.getLsbD 4 } }) ∧
    (u.mirrorHears m → exec (.clearStandingWord m set rest) s = .next
      { u with
        bus := u.bus.setPort m (.answered .completion)
        mirror :=
          { u.mirror with
            clearStanding := rest ++ set
            fetchFault := u.mirror.fetchFault && !set.getLsbD 0
            guardSeen := u.mirror.guardSeen && !set.getLsbD 1
            rangeSeen := u.mirror.rangeSeen && !set.getLsbD 2
            memoryFault := u.mirror.memoryFault && !set.getLsbD 3
            eventOverrun := u.mirror.eventOverrun && !set.getLsbD 4 } })

/-- The events-taken word removes the min(n, count) oldest records: the head moves on, the count falls, the freed positions are empty
and the records left are the newest (R170). -/
def Obligations.EventsTakenRemoved : Prop :=
  ∀ s u m n rest k, s.settle = u → u.mirrorHears m → EventRingInv u → k = min n.toNat u.mirror.count →
    ∃ t, exec (.eventsTaken m n rest) s = .next t ∧
      t = { u with
        bus := u.bus.setPort m (.answered .completion)
        mirror :=
          { u.mirror with
            events := t.mirror.events
            head := (u.mirror.head + k) % 32
            count := u.mirror.count - k
            eventsTaken := rest ++ n } } ∧
      (∀ i, i < k → t.mirror.events[(u.mirror.head + i) % 32]? = some none) ∧
      t.mirror.records = u.mirror.records.drop k

/-- An event joins the queue's tail while fewer than 32 are held; at 32 it is discarded and EVENT_OVERRUN is set. ATTENTION is high, from
the arm on and outside reset, while the queue holds a record or a standing condition is set (R171, R173). The conditions, bits 0 to
17: JAMMED follows the path state, COVER_OPEN, TRAY_EMPTY and STACK_FULL their inputs from the arm on, PACE_HOLD the pace state,
TRAY_STALLED the stall flags, and the other five are latched (R164, R172). The output lines of a powered, armed
part: RUN_TRANSPORT is high in the driven states and FUSER_STANDBY in STANDBY; PICK of a tray while a record of the tray is FEEDING,
so only in RUNNING and DRAINING; the rest show the diverter and gate levels, the pace state and ATTENTION (R48, R88, R116, R137,
R140). -/
def Obligations.EventQueuedAndAttention : Prop :=
  ∀ (s : State) (r : EventRecord), EventRingInv s →
    (s.mirror.count < 32 →
      (s.mirror.push r).records = s.mirror.records ++ [r] ∧ (s.mirror.push r).count = s.mirror.count + 1 ∧
      (s.mirror.push r).head = s.mirror.head ∧
      (s.inReset = false → s.armed = true → State.attention { s with mirror := s.mirror.push r } = true)) ∧
    (s.mirror.count = 32 → s.mirror.push r = { s.mirror with eventOverrun := true }) ∧
    (s.inReset = true ∨ s.armed = false → s.attention = false) ∧
    (s.inReset = false → s.armed = true → (s.attention = true ↔ 0 < s.mirror.count ∨ true ∈ s.conditions.bits)) ∧
    (∀ (empty : Tray → Bool) (coverOpen fullA fullB : Bool),
      (s.seqr.path ≠ .unconfigured → coverOpen = !s.pins.coverClosed ∧ fullA = s.pins.stackFullA ∧
        fullB = s.pins.stackFullB ∧ ∀ tray : Tray, empty tray = s.pins.trayEmpty[tray]) →
      (s.seqr.path = .unconfigured →
        coverOpen = false ∧ fullA = false ∧ fullB = false ∧ ∀ tray : Tray, empty tray = false) →
      s.conditions.bits =
        [decide (s.seqr.path = .jammed), coverOpen, empty 0, empty 1, empty 2, empty 3, fullA, fullB, s.frames.hold,
         s.launch.stalled[0], s.launch.stalled[1], s.launch.stalled[2], s.launch.stalled[3], s.mirror.fetchFault,
         s.mirror.guardSeen, s.mirror.rangeSeen, s.mirror.memoryFault, s.mirror.eventOverrun]) ∧
    ∀ o, s.pins.powerGood = true → s.inReset = false → s.armed = true → s.outputs = o →
      (o.runTransport = true ↔ s.seqr.path = .starting ∨ s.seqr.path = .running ∨ s.seqr.path = .draining) ∧
      (o.fuserStandby = true ↔ s.seqr.path = .standby) ∧
      (∀ tray : Tray,
        (o.pick[tray] = true ↔ ∃ r ∈ s.track.table, r.copy.order.tray = tray ∧ r.phase = .feeding) ∧
        (PathInv s → o.pick[tray] = true → s.seqr.path = .running ∨ s.seqr.path = .draining)) ∧
      o.divertLoop = s.track.divertLoop ∧ o.purgeGate = s.track.purgeGate ∧ o.jogB = s.track.jogB ∧
      o.paceHold = s.frames.hold ∧ o.attention = s.attention

/-- A control word with the last-taken toggle is a repeat: its bytes are kept and nothing else happens, whatever its code; an unknown
code is refused as written; a mirror write that covers no request word is completed and ignored (R166, R167, R176). -/
def Obligations.ControlWordNotTaken : Prop :=
  ∀ s u m, s.settle = u → u.mirrorHears m →
    (∀ code a b x, b.getLsbD 0 = u.mirror.lastToggle → exec (controlRow code m a b x) s = .next
      { u with
        bus := u.bus.setPort m (.answered .completion)
        mirror := { u.mirror with control := x ++ b ++ a ++ code } }) ∧
    (∀ code a b x, b.getLsbD 0 ≠ u.mirror.lastToggle → unknownCode code = true →
      exec (.unknownRequest m code a b x) s = .next
        ((u.requestTaken m code a b x).reported (.requestRefused code u.seqr.path))) ∧
    (∀ block en data, en ≠ 0 → coversRequestWord block.val en = false →
      exec (.mirrorWriteIgnored m block en data) s = .next
        { u with bus := u.bus.setPort m (.answered .completion) })

/-- A bus write that enables a request word in full does what the request's row does: for the control word, every request code; for
the events-taken and clear-standing words likewise (R4, R166, R167). -/
def Obligations.RequestWordsAreBusWrites : Prop :=
  ∀ s u w, s.settle = u → u.inReset = false → u.armed = true → enablesWord w.enables 0 = true →
    (u.region w.line = .mirror 8 →
      exec (.busWrite w) s =
        exec (controlRow (byteAt w.data 0) w.master (byteAt w.data 1) (byteAt w.data 2) (byteAt w.data 3)) s) ∧
    (u.region w.line = .mirror 9 →
      exec (.busWrite w) s = exec (.eventsTaken w.master (byteAt w.data 0) (lineField w.data 1 3)) s) ∧
    (u.region w.line = .mirror 10 →
      exec (.busWrite w) s = exec (.clearStandingWord w.master (byteAt w.data 0) (lineField w.data 1 3)) s)

/-- The input changes that move no path state keep the new level alone: the cover's rise, the fuser's fall, a tray's and a stack's
switch (R91, R94, R111, R172). -/
def Obligations.InputsKeepLevels : Prop :=
  ∀ s u tray stack level, s.settle = u →
    exec .coverClosedRise s = .next { u with pins := { u.pins with coverClosed := true } } ∧
    exec .fuserReadyFall s = .next { u with pins := { u.pins with fuserReady := false } } ∧
    exec (.trayEmptyChange tray level) s = .next
      { u with pins := { u.pins with trayEmpty := u.pins.trayEmpty.set tray level } } ∧
    exec (.stackFullChange stack level) s = .next
      { u with pins :=
        match stack with
        | .a => { u.pins with stackFullA := level }
        | .b => { u.pins with stackFullB := level } }
end

