-- ==== Sys2Proof/Laws/State.lean ====
section
/-! SUPPORT. What each update of the state leaves and sets, one lemma per field, so that no proof unfolds a record update. -/

namespace Sys2Proof.Machine

/-! ### raiseAt -/

@[simp] theorem State.raiseAt_pins (e : Event) (st : PathCount) (s : State) :
    (s.raiseAt e st).pins = s.pins := rfl
@[simp] theorem State.raiseAt_bus (e : Event) (st : PathCount) (s : State) :
    (s.raiseAt e st).bus = s.bus := rfl
@[simp] theorem State.raiseAt_latch (e : Event) (st : PathCount) (s : State) :
    (s.raiseAt e st).latch = s.latch := rfl
@[simp] theorem State.raiseAt_frames (e : Event) (st : PathCount) (s : State) :
    (s.raiseAt e st).frames = s.frames := rfl
@[simp] theorem State.raiseAt_orders (e : Event) (st : PathCount) (s : State) :
    (s.raiseAt e st).orders = s.orders := rfl
@[simp] theorem State.raiseAt_clock (e : Event) (st : PathCount) (s : State) :
    (s.raiseAt e st).clock = s.clock := rfl
@[simp] theorem State.raiseAt_seqr (e : Event) (st : PathCount) (s : State) :
    (s.raiseAt e st).seqr = s.seqr := rfl
@[simp] theorem State.raiseAt_launch (e : Event) (st : PathCount) (s : State) :
    (s.raiseAt e st).launch = s.launch := rfl
@[simp] theorem State.raiseAt_track (e : Event) (st : PathCount) (s : State) :
    (s.raiseAt e st).track = s.track := rfl
@[simp] theorem State.raiseAt_reprint (e : Event) (st : PathCount) (s : State) :
    (s.raiseAt e st).reprint = s.reprint := rfl
@[simp] theorem State.raiseAt_mirror (e : Event) (st : PathCount) (s : State) :
    (s.raiseAt e st).mirror = s.mirror.push ⟨e, st⟩ := rfl
@[simp] theorem State.raiseAt_freeCount (e : Event) (st : PathCount) (s : State) :
    (s.raiseAt e st).freeCount = s.freeCount := rfl
@[simp] theorem State.raiseAt_pending (e : Event) (st : PathCount) (s : State) :
    (s.raiseAt e st).pending = s.pending := rfl

/-! ### guardAbort -/

@[simp] theorem State.guardAbort_pins (g : GuardTarget) (m : Master) (s : State) :
    (s.guardAbort g m).pins = s.pins := rfl
@[simp] theorem State.guardAbort_bus (g : GuardTarget) (m : Master) (s : State) :
    (s.guardAbort g m).bus = s.bus := rfl
@[simp] theorem State.guardAbort_latch (g : GuardTarget) (m : Master) (s : State) :
    (s.guardAbort g m).latch = s.latch := rfl
@[simp] theorem State.guardAbort_frames (g : GuardTarget) (m : Master) (s : State) :
    (s.guardAbort g m).frames = s.frames := rfl
@[simp] theorem State.guardAbort_orders (g : GuardTarget) (m : Master) (s : State) :
    (s.guardAbort g m).orders = s.orders := rfl
@[simp] theorem State.guardAbort_clock (g : GuardTarget) (m : Master) (s : State) :
    (s.guardAbort g m).clock = s.clock := rfl
@[simp] theorem State.guardAbort_seqr (g : GuardTarget) (m : Master) (s : State) :
    (s.guardAbort g m).seqr = s.seqr := rfl
@[simp] theorem State.guardAbort_launch (g : GuardTarget) (m : Master) (s : State) :
    (s.guardAbort g m).launch = s.launch := rfl
@[simp] theorem State.guardAbort_track (g : GuardTarget) (m : Master) (s : State) :
    (s.guardAbort g m).track = s.track := rfl
@[simp] theorem State.guardAbort_reprint (g : GuardTarget) (m : Master) (s : State) :
    (s.guardAbort g m).reprint = s.reprint := rfl
@[simp] theorem State.guardAbort_mirror (g : GuardTarget) (m : Master) (s : State) :
    (s.guardAbort g m).mirror = ({ s.mirror with guardSeen := true }).push ⟨.guardAbort g m, s.clock.pathCount⟩ := rfl
@[simp] theorem State.guardAbort_freeCount (g : GuardTarget) (m : Master) (s : State) :
    (s.guardAbort g m).freeCount = s.freeCount := rfl
@[simp] theorem State.guardAbort_pending (g : GuardTarget) (m : Master) (s : State) :
    (s.guardAbort g m).pending = s.pending := rfl

/-! ### rangeFault -/

@[simp] theorem State.rangeFault_pins (m : Master) (l : LineNo) (s : State) :
    (s.rangeFault m l).pins = s.pins := rfl
@[simp] theorem State.rangeFault_bus (m : Master) (l : LineNo) (s : State) :
    (s.rangeFault m l).bus = s.bus := rfl
@[simp] theorem State.rangeFault_latch (m : Master) (l : LineNo) (s : State) :
    (s.rangeFault m l).latch = s.latch := rfl
@[simp] theorem State.rangeFault_frames (m : Master) (l : LineNo) (s : State) :
    (s.rangeFault m l).frames = s.frames := rfl
@[simp] theorem State.rangeFault_orders (m : Master) (l : LineNo) (s : State) :
    (s.rangeFault m l).orders = s.orders := rfl
@[simp] theorem State.rangeFault_clock (m : Master) (l : LineNo) (s : State) :
    (s.rangeFault m l).clock = s.clock := rfl
@[simp] theorem State.rangeFault_seqr (m : Master) (l : LineNo) (s : State) :
    (s.rangeFault m l).seqr = s.seqr := rfl
@[simp] theorem State.rangeFault_launch (m : Master) (l : LineNo) (s : State) :
    (s.rangeFault m l).launch = s.launch := rfl
@[simp] theorem State.rangeFault_track (m : Master) (l : LineNo) (s : State) :
    (s.rangeFault m l).track = s.track := rfl
@[simp] theorem State.rangeFault_reprint (m : Master) (l : LineNo) (s : State) :
    (s.rangeFault m l).reprint = s.reprint := rfl
@[simp] theorem State.rangeFault_mirror (m : Master) (l : LineNo) (s : State) :
    (s.rangeFault m l).mirror = ({ s.mirror with rangeSeen := true }).push ⟨.rangeFault m l, s.clock.pathCount⟩ := rfl
@[simp] theorem State.rangeFault_freeCount (m : Master) (l : LineNo) (s : State) :
    (s.rangeFault m l).freeCount = s.freeCount := rfl
@[simp] theorem State.rangeFault_pending (m : Master) (l : LineNo) (s : State) :
    (s.rangeFault m l).pending = s.pending := rfl

/-! ### answer -/

@[simp] theorem State.answer_pins (m : Master) (a : Answer) (s : State) :
    (s.answer m a).pins = s.pins := rfl
@[simp] theorem State.answer_bus (m : Master) (a : Answer) (s : State) :
    (s.answer m a).bus = s.bus.setPort m (.answered a) := rfl
@[simp] theorem State.answer_latch (m : Master) (a : Answer) (s : State) :
    (s.answer m a).latch = s.latch := rfl
@[simp] theorem State.answer_frames (m : Master) (a : Answer) (s : State) :
    (s.answer m a).frames = s.frames := rfl
@[simp] theorem State.answer_orders (m : Master) (a : Answer) (s : State) :
    (s.answer m a).orders = s.orders := rfl
@[simp] theorem State.answer_clock (m : Master) (a : Answer) (s : State) :
    (s.answer m a).clock = s.clock := rfl
@[simp] theorem State.answer_seqr (m : Master) (a : Answer) (s : State) :
    (s.answer m a).seqr = s.seqr := rfl
@[simp] theorem State.answer_launch (m : Master) (a : Answer) (s : State) :
    (s.answer m a).launch = s.launch := rfl
@[simp] theorem State.answer_track (m : Master) (a : Answer) (s : State) :
    (s.answer m a).track = s.track := rfl
@[simp] theorem State.answer_reprint (m : Master) (a : Answer) (s : State) :
    (s.answer m a).reprint = s.reprint := rfl
@[simp] theorem State.answer_mirror (m : Master) (a : Answer) (s : State) :
    (s.answer m a).mirror = s.mirror := rfl
@[simp] theorem State.answer_freeCount (m : Master) (a : Answer) (s : State) :
    (s.answer m a).freeCount = s.freeCount := rfl
@[simp] theorem State.answer_pending (m : Master) (a : Answer) (s : State) :
    (s.answer m a).pending = s.pending := rfl

/-! ### hold -/

@[simp] theorem State.hold_pins (m : Master) (s : State) :
    (s.hold m).pins = s.pins := rfl
@[simp] theorem State.hold_bus (m : Master) (s : State) :
    (s.hold m).bus = s.bus.setPort m .held := rfl
@[simp] theorem State.hold_latch (m : Master) (s : State) :
    (s.hold m).latch = s.latch := rfl
@[simp] theorem State.hold_frames (m : Master) (s : State) :
    (s.hold m).frames = s.frames := rfl
@[simp] theorem State.hold_orders (m : Master) (s : State) :
    (s.hold m).orders = s.orders := rfl
@[simp] theorem State.hold_clock (m : Master) (s : State) :
    (s.hold m).clock = s.clock := rfl
@[simp] theorem State.hold_seqr (m : Master) (s : State) :
    (s.hold m).seqr = s.seqr := rfl
@[simp] theorem State.hold_launch (m : Master) (s : State) :
    (s.hold m).launch = s.launch := rfl
@[simp] theorem State.hold_track (m : Master) (s : State) :
    (s.hold m).track = s.track := rfl
@[simp] theorem State.hold_reprint (m : Master) (s : State) :
    (s.hold m).reprint = s.reprint := rfl
@[simp] theorem State.hold_mirror (m : Master) (s : State) :
    (s.hold m).mirror = s.mirror := rfl
@[simp] theorem State.hold_freeCount (m : Master) (s : State) :
    (s.hold m).freeCount = s.freeCount := rfl
@[simp] theorem State.hold_pending (m : Master) (s : State) :
    (s.hold m).pending = s.pending := rfl

/-! ### onFrames -/

@[simp] theorem State.onFrames_pins (g : Frames → Frames) (s : State) :
    (s.onFrames g).pins = s.pins := rfl
@[simp] theorem State.onFrames_bus (g : Frames → Frames) (s : State) :
    (s.onFrames g).bus = s.bus := rfl
@[simp] theorem State.onFrames_latch (g : Frames → Frames) (s : State) :
    (s.onFrames g).latch = s.latch := rfl
@[simp] theorem State.onFrames_frames (g : Frames → Frames) (s : State) :
    (s.onFrames g).frames = g s.frames := rfl
@[simp] theorem State.onFrames_orders (g : Frames → Frames) (s : State) :
    (s.onFrames g).orders = s.orders := rfl
@[simp] theorem State.onFrames_clock (g : Frames → Frames) (s : State) :
    (s.onFrames g).clock = s.clock := rfl
@[simp] theorem State.onFrames_seqr (g : Frames → Frames) (s : State) :
    (s.onFrames g).seqr = s.seqr := rfl
@[simp] theorem State.onFrames_launch (g : Frames → Frames) (s : State) :
    (s.onFrames g).launch = s.launch := rfl
@[simp] theorem State.onFrames_track (g : Frames → Frames) (s : State) :
    (s.onFrames g).track = s.track := rfl
@[simp] theorem State.onFrames_reprint (g : Frames → Frames) (s : State) :
    (s.onFrames g).reprint = s.reprint := rfl
@[simp] theorem State.onFrames_mirror (g : Frames → Frames) (s : State) :
    (s.onFrames g).mirror = s.mirror := rfl
@[simp] theorem State.onFrames_freeCount (g : Frames → Frames) (s : State) :
    (s.onFrames g).freeCount = s.freeCount := rfl
@[simp] theorem State.onFrames_pending (g : Frames → Frames) (s : State) :
    (s.onFrames g).pending = s.pending := rfl

/-! ### onTrack -/

@[simp] theorem State.onTrack_pins (g : Tracking → Tracking) (s : State) :
    (s.onTrack g).pins = s.pins := rfl
@[simp] theorem State.onTrack_bus (g : Tracking → Tracking) (s : State) :
    (s.onTrack g).bus = s.bus := rfl
@[simp] theorem State.onTrack_latch (g : Tracking → Tracking) (s : State) :
    (s.onTrack g).latch = s.latch := rfl
@[simp] theorem State.onTrack_frames (g : Tracking → Tracking) (s : State) :
    (s.onTrack g).frames = s.frames := rfl
@[simp] theorem State.onTrack_orders (g : Tracking → Tracking) (s : State) :
    (s.onTrack g).orders = s.orders := rfl
@[simp] theorem State.onTrack_clock (g : Tracking → Tracking) (s : State) :
    (s.onTrack g).clock = s.clock := rfl
@[simp] theorem State.onTrack_seqr (g : Tracking → Tracking) (s : State) :
    (s.onTrack g).seqr = s.seqr := rfl
@[simp] theorem State.onTrack_launch (g : Tracking → Tracking) (s : State) :
    (s.onTrack g).launch = s.launch := rfl
@[simp] theorem State.onTrack_track (g : Tracking → Tracking) (s : State) :
    (s.onTrack g).track = g s.track := rfl
@[simp] theorem State.onTrack_reprint (g : Tracking → Tracking) (s : State) :
    (s.onTrack g).reprint = s.reprint := rfl
@[simp] theorem State.onTrack_mirror (g : Tracking → Tracking) (s : State) :
    (s.onTrack g).mirror = s.mirror := rfl
@[simp] theorem State.onTrack_freeCount (g : Tracking → Tracking) (s : State) :
    (s.onTrack g).freeCount = s.freeCount := rfl
@[simp] theorem State.onTrack_pending (g : Tracking → Tracking) (s : State) :
    (s.onTrack g).pending = s.pending := rfl

/-! ### onSeqr -/

@[simp] theorem State.onSeqr_pins (g : Sequencer → Sequencer) (s : State) :
    (s.onSeqr g).pins = s.pins := rfl
@[simp] theorem State.onSeqr_bus (g : Sequencer → Sequencer) (s : State) :
    (s.onSeqr g).bus = s.bus := rfl
@[simp] theorem State.onSeqr_latch (g : Sequencer → Sequencer) (s : State) :
    (s.onSeqr g).latch = s.latch := rfl
@[simp] theorem State.onSeqr_frames (g : Sequencer → Sequencer) (s : State) :
    (s.onSeqr g).frames = s.frames := rfl
@[simp] theorem State.onSeqr_orders (g : Sequencer → Sequencer) (s : State) :
    (s.onSeqr g).orders = s.orders := rfl
@[simp] theorem State.onSeqr_clock (g : Sequencer → Sequencer) (s : State) :
    (s.onSeqr g).clock = s.clock := rfl
@[simp] theorem State.onSeqr_seqr (g : Sequencer → Sequencer) (s : State) :
    (s.onSeqr g).seqr = g s.seqr := rfl
@[simp] theorem State.onSeqr_launch (g : Sequencer → Sequencer) (s : State) :
    (s.onSeqr g).launch = s.launch := rfl
@[simp] theorem State.onSeqr_track (g : Sequencer → Sequencer) (s : State) :
    (s.onSeqr g).track = s.track := rfl
@[simp] theorem State.onSeqr_reprint (g : Sequencer → Sequencer) (s : State) :
    (s.onSeqr g).reprint = s.reprint := rfl
@[simp] theorem State.onSeqr_mirror (g : Sequencer → Sequencer) (s : State) :
    (s.onSeqr g).mirror = s.mirror := rfl
@[simp] theorem State.onSeqr_freeCount (g : Sequencer → Sequencer) (s : State) :
    (s.onSeqr g).freeCount = s.freeCount := rfl
@[simp] theorem State.onSeqr_pending (g : Sequencer → Sequencer) (s : State) :
    (s.onSeqr g).pending = s.pending := rfl

/-! ### onBus -/

@[simp] theorem State.onBus_pins (g : Bus → Bus) (s : State) :
    (s.onBus g).pins = s.pins := rfl
@[simp] theorem State.onBus_bus (g : Bus → Bus) (s : State) :
    (s.onBus g).bus = g s.bus := rfl
@[simp] theorem State.onBus_latch (g : Bus → Bus) (s : State) :
    (s.onBus g).latch = s.latch := rfl
@[simp] theorem State.onBus_frames (g : Bus → Bus) (s : State) :
    (s.onBus g).frames = s.frames := rfl
@[simp] theorem State.onBus_orders (g : Bus → Bus) (s : State) :
    (s.onBus g).orders = s.orders := rfl
@[simp] theorem State.onBus_clock (g : Bus → Bus) (s : State) :
    (s.onBus g).clock = s.clock := rfl
@[simp] theorem State.onBus_seqr (g : Bus → Bus) (s : State) :
    (s.onBus g).seqr = s.seqr := rfl
@[simp] theorem State.onBus_launch (g : Bus → Bus) (s : State) :
    (s.onBus g).launch = s.launch := rfl
@[simp] theorem State.onBus_track (g : Bus → Bus) (s : State) :
    (s.onBus g).track = s.track := rfl
@[simp] theorem State.onBus_reprint (g : Bus → Bus) (s : State) :
    (s.onBus g).reprint = s.reprint := rfl
@[simp] theorem State.onBus_mirror (g : Bus → Bus) (s : State) :
    (s.onBus g).mirror = s.mirror := rfl
@[simp] theorem State.onBus_freeCount (g : Bus → Bus) (s : State) :
    (s.onBus g).freeCount = s.freeCount := rfl
@[simp] theorem State.onBus_pending (g : Bus → Bus) (s : State) :
    (s.onBus g).pending = s.pending := rfl

/-! ### onPins -/

@[simp] theorem State.onPins_pins (g : Pins → Pins) (s : State) :
    (s.onPins g).pins = g s.pins := rfl
@[simp] theorem State.onPins_bus (g : Pins → Pins) (s : State) :
    (s.onPins g).bus = s.bus := rfl
@[simp] theorem State.onPins_latch (g : Pins → Pins) (s : State) :
    (s.onPins g).latch = s.latch := rfl
@[simp] theorem State.onPins_frames (g : Pins → Pins) (s : State) :
    (s.onPins g).frames = s.frames := rfl
@[simp] theorem State.onPins_orders (g : Pins → Pins) (s : State) :
    (s.onPins g).orders = s.orders := rfl
@[simp] theorem State.onPins_clock (g : Pins → Pins) (s : State) :
    (s.onPins g).clock = s.clock := rfl
@[simp] theorem State.onPins_seqr (g : Pins → Pins) (s : State) :
    (s.onPins g).seqr = s.seqr := rfl
@[simp] theorem State.onPins_launch (g : Pins → Pins) (s : State) :
    (s.onPins g).launch = s.launch := rfl
@[simp] theorem State.onPins_track (g : Pins → Pins) (s : State) :
    (s.onPins g).track = s.track := rfl
@[simp] theorem State.onPins_reprint (g : Pins → Pins) (s : State) :
    (s.onPins g).reprint = s.reprint := rfl
@[simp] theorem State.onPins_mirror (g : Pins → Pins) (s : State) :
    (s.onPins g).mirror = s.mirror := rfl
@[simp] theorem State.onPins_freeCount (g : Pins → Pins) (s : State) :
    (s.onPins g).freeCount = s.freeCount := rfl
@[simp] theorem State.onPins_pending (g : Pins → Pins) (s : State) :
    (s.onPins g).pending = s.pending := rfl

/-! ### enter -/

@[simp] theorem State.enter_pins (p : PathState) (s : State) :
    (s.enter p).pins = s.pins := rfl
@[simp] theorem State.enter_bus (p : PathState) (s : State) :
    (s.enter p).bus = s.bus := rfl
@[simp] theorem State.enter_latch (p : PathState) (s : State) :
    (s.enter p).latch = s.latch := rfl
@[simp] theorem State.enter_frames (p : PathState) (s : State) :
    (s.enter p).frames = s.frames := rfl
@[simp] theorem State.enter_orders (p : PathState) (s : State) :
    (s.enter p).orders = s.orders := rfl
@[simp] theorem State.enter_clock (p : PathState) (s : State) :
    (s.enter p).clock = s.clock := rfl
@[simp] theorem State.enter_seqr (p : PathState) (s : State) :
    (s.enter p).seqr = { s.seqr with path := p } := rfl
@[simp] theorem State.enter_launch (p : PathState) (s : State) :
    (s.enter p).launch = s.launch := rfl
@[simp] theorem State.enter_track (p : PathState) (s : State) :
    (s.enter p).track = s.track := rfl
@[simp] theorem State.enter_reprint (p : PathState) (s : State) :
    (s.enter p).reprint = s.reprint := rfl
@[simp] theorem State.enter_mirror (p : PathState) (s : State) :
    (s.enter p).mirror = s.mirror.push ⟨.stateChange p, s.clock.pathCount⟩ := rfl
@[simp] theorem State.enter_freeCount (p : PathState) (s : State) :
    (s.enter p).freeCount = s.freeCount := rfl
@[simp] theorem State.enter_pending (p : PathState) (s : State) :
    (s.enter p).pending = s.pending := rfl

/-! ### freeFace -/

@[simp] theorem State.freeFace_pins (x : Face) (s : State) :
    (s.freeFace x).pins = s.pins := rfl
@[simp] theorem State.freeFace_bus (x : Face) (s : State) :
    (s.freeFace x).bus = s.bus := rfl
@[simp] theorem State.freeFace_latch (x : Face) (s : State) :
    (s.freeFace x).latch = s.latch := rfl
@[simp] theorem State.freeFace_frames (x : Face) (s : State) :
    (s.freeFace x).frames = s.frames := rfl
@[simp] theorem State.freeFace_orders (x : Face) (s : State) :
    (s.freeFace x).orders = s.orders := rfl
@[simp] theorem State.freeFace_clock (x : Face) (s : State) :
    (s.freeFace x).clock = s.clock := rfl
@[simp] theorem State.freeFace_seqr (x : Face) (s : State) :
    (s.freeFace x).seqr = s.seqr := rfl
@[simp] theorem State.freeFace_launch (x : Face) (s : State) :
    (s.freeFace x).launch = { s.launch with calendar := s.launch.calendar.map fun c => if c = some x then none else c } := rfl
@[simp] theorem State.freeFace_track (x : Face) (s : State) :
    (s.freeFace x).track = s.track := rfl
@[simp] theorem State.freeFace_reprint (x : Face) (s : State) :
    (s.freeFace x).reprint = s.reprint := rfl
@[simp] theorem State.freeFace_mirror (x : Face) (s : State) :
    (s.freeFace x).mirror = s.mirror := rfl
@[simp] theorem State.freeFace_freeCount (x : Face) (s : State) :
    (s.freeFace x).freeCount = s.freeCount := rfl
@[simp] theorem State.freeFace_pending (x : Face) (s : State) :
    (s.freeFace x).pending = s.pending := rfl

/-! ### freeSheet -/

@[simp] theorem State.freeSheet_pins (q : Seq) (s : State) :
    (s.freeSheet q).pins = s.pins := rfl
@[simp] theorem State.freeSheet_bus (q : Seq) (s : State) :
    (s.freeSheet q).bus = s.bus := rfl
@[simp] theorem State.freeSheet_latch (q : Seq) (s : State) :
    (s.freeSheet q).latch = s.latch := rfl
@[simp] theorem State.freeSheet_frames (q : Seq) (s : State) :
    (s.freeSheet q).frames = s.frames := rfl
@[simp] theorem State.freeSheet_orders (q : Seq) (s : State) :
    (s.freeSheet q).orders = s.orders := rfl
@[simp] theorem State.freeSheet_clock (q : Seq) (s : State) :
    (s.freeSheet q).clock = s.clock := rfl
@[simp] theorem State.freeSheet_seqr (q : Seq) (s : State) :
    (s.freeSheet q).seqr = s.seqr := rfl
@[simp] theorem State.freeSheet_launch (q : Seq) (s : State) :
    (s.freeSheet q).launch = { s.launch with calendar := s.launch.calendar.map fun c => if c.map Face.seq = some q then none else c } := rfl
@[simp] theorem State.freeSheet_track (q : Seq) (s : State) :
    (s.freeSheet q).track = s.track := rfl
@[simp] theorem State.freeSheet_reprint (q : Seq) (s : State) :
    (s.freeSheet q).reprint = s.reprint := rfl
@[simp] theorem State.freeSheet_mirror (q : Seq) (s : State) :
    (s.freeSheet q).mirror = s.mirror := rfl
@[simp] theorem State.freeSheet_freeCount (q : Seq) (s : State) :
    (s.freeSheet q).freeCount = s.freeCount := rfl
@[simp] theorem State.freeSheet_pending (q : Seq) (s : State) :
    (s.freeSheet q).pending = s.pending := rfl

/-! ### toReprint -/

@[simp] theorem State.toReprint_pins (c : OrderCopy) (s : State) :
    (s.toReprint c).pins = s.pins := rfl
@[simp] theorem State.toReprint_bus (c : OrderCopy) (s : State) :
    (s.toReprint c).bus = s.bus := rfl
@[simp] theorem State.toReprint_latch (c : OrderCopy) (s : State) :
    (s.toReprint c).latch = s.latch := rfl
@[simp] theorem State.toReprint_frames (c : OrderCopy) (s : State) :
    (s.toReprint c).frames = s.frames := rfl
@[simp] theorem State.toReprint_orders (c : OrderCopy) (s : State) :
    (s.toReprint c).orders = s.orders := rfl
@[simp] theorem State.toReprint_clock (c : OrderCopy) (s : State) :
    (s.toReprint c).clock = s.clock := rfl
@[simp] theorem State.toReprint_seqr (c : OrderCopy) (s : State) :
    (s.toReprint c).seqr = if s.reprint.isEmpty then { s.seqr with idleCtr := 0 } else s.seqr := rfl
@[simp] theorem State.toReprint_launch (c : OrderCopy) (s : State) :
    (s.toReprint c).launch = s.launch := rfl
@[simp] theorem State.toReprint_track (c : OrderCopy) (s : State) :
    (s.toReprint c).track = s.track := rfl
@[simp] theorem State.toReprint_reprint (c : OrderCopy) (s : State) :
    (s.toReprint c).reprint = insertCopy c s.reprint := rfl
@[simp] theorem State.toReprint_mirror (c : OrderCopy) (s : State) :
    (s.toReprint c).mirror = s.mirror := rfl
@[simp] theorem State.toReprint_freeCount (c : OrderCopy) (s : State) :
    (s.toReprint c).freeCount = s.freeCount := rfl
@[simp] theorem State.toReprint_pending (c : OrderCopy) (s : State) :
    (s.toReprint c).pending = s.pending := rfl

/-! ### closeSheet and withdrawStuck -/

@[simp] theorem Frames.closeSheet_table (q : Seq) (x : Frames) : (x.closeSheet q).table = x.table := rfl
@[simp] theorem Frames.closeSheet_free (q : Seq) (x : Frames) : (x.closeSheet q).free = x.free := rfl
@[simp] theorem Frames.closeSheet_hold (q : Seq) (x : Frames) : (x.closeSheet q).hold = x.hold := rfl
@[simp] theorem Tracking.withdrawStuck_table (sn : Sensor) (q : Seq) (x : Tracking) :
    (x.withdrawStuck sn q).table = x.table := rfl
@[simp] theorem Tracking.withdrawStuck_arrivals (sn : Sensor) (q : Seq) (x : Tracking) :
    (x.withdrawStuck sn q).arrivals = x.arrivals := rfl
@[simp] theorem Tracking.withdrawStuck_occupants (sn : Sensor) (q : Seq) (x : Tracking) :
    (x.withdrawStuck sn q).occupants = x.occupants := rfl
@[simp] theorem Tracking.withdrawStuck_gateQueue (sn : Sensor) (q : Seq) (x : Tracking) :
    (x.withdrawStuck sn q).gateQueue = x.gateQueue := rfl
@[simp] theorem Tracking.withdrawStuck_purgeGate (sn : Sensor) (q : Seq) (x : Tracking) :
    (x.withdrawStuck sn q).purgeGate = x.purgeGate := rfl
@[simp] theorem Tracking.withdrawStuck_jogB (sn : Sensor) (q : Seq) (x : Tracking) :
    (x.withdrawStuck sn q).jogB = x.jogB := rfl
@[simp] theorem Tracking.withdrawStuck_divertLoop (sn : Sensor) (q : Seq) (x : Tracking) :
    (x.withdrawStuck sn q).divertLoop = x.divertLoop := rfl
@[simp] theorem Tracking.withdrawStuck_dGate (sn : Sensor) (q : Seq) (x : Tracking) :
    (x.withdrawStuck sn q).dGate = x.dGate := rfl
@[simp] theorem Tracking.withdrawStuck_dDel (sn : Sensor) (q : Seq) (x : Tracking) :
    (x.withdrawStuck sn q).dDel = x.dDel := rfl

end Sys2Proof.Machine
end

