-- ==== Sys2Proof/Laws/Ops.lean ====
section
/-! SUPPORT. What each shared operation can do, said once: later proofs cite these instead of unfolding it. -/

namespace Sys2Proof.Machine

/-! ## Bytes of a line -/

theorem getLsbD_foldr_bytes (f : Nat → Byte) (n j : Nat) : ∀ m,
    ((List.range' m n).foldr (fun i (acc : Line) => acc <<< 8 ||| (f i).setWidth 256) 0).getLsbD j =
      (decide (j < 8 * n) && (decide (j < 256) && (f (m + j / 8)).getLsbD (j % 8))) := by
  induction n generalizing j with
  | zero => intro m; simp
  | succ n ih =>
    intro m
    simp only [List.range'_succ, List.foldr_cons, BitVec.getLsbD_or, BitVec.getLsbD_shiftLeft,
      BitVec.getLsbD_setWidth]
    by_cases hj : j < 8
    · have h1 : j / 8 = 0 := by omega
      have h2 : j % 8 = j := by omega
      have h3 : j < 256 := by omega
      have h4 : j < 8 * (n + 1) := by omega
      simp [hj, h1, h2, h3, h4]
    · have h2 : (j - 8) % 8 = j % 8 := by omega
      have h3 : m + 1 + (j - 8) / 8 = m + j / 8 := by omega
      rw [ih, h2, h3]
      have h4 : (f m).getLsbD j = false := BitVec.getLsbD_of_ge _ _ (by omega)
      have h5 : (j - 8 < 8 * n) = (j < 8 * (n + 1)) := by simp; omega
      simp only [h4, h5, Bool.and_false, Bool.or_false]
      by_cases h6 : j < 256
      · have h7 : j - 8 < 256 := by omega
        simp [h6, hj, h7]
      · simp [h6]

/-- Byte `i` of a packed line is what was packed there. -/
theorem byteAt_packBytes (f : Nat → Byte) (i : Nat) (h : i < 32) : byteAt (packBytes f) i = f i := by
  ext j hj
  simp only [byteAt, packBytes, BitVec.getElem_extractLsb', List.range_eq_range', getLsbD_foldr_bytes]
  have h1 : (8 * i + j) / 8 = i := by omega
  have h2 : (8 * i + j) % 8 = j := by omega
  have h3 : 8 * i + j < 256 := by omega
  simp [h1, h2, h3, BitVec.getLsbD_eq_getElem hj]

/-- A merge takes the enabled bytes from the write and keeps the others (R7, R16, R51). -/
theorem byteAt_mergeLine (a b : Line) (en : Enables) (i : Nat) (h : i < 32) :
    byteAt (mergeLine a b en) i = if en.getLsbD i then byteAt b i else byteAt a i := by
  simp [mergeLine, byteAt_packBytes, h]

/-- Bit `j` of a packed line. -/
theorem getLsbD_packBytes (f : Nat → Byte) (j : Nat) :
    (packBytes f).getLsbD j = (decide (j < 256) && (f (j / 8)).getLsbD (j % 8)) := by
  simp only [packBytes, List.range_eq_range', getLsbD_foldr_bytes]
  by_cases h : j < 256 <;> simp [h]

/-! ## The bus -/

theorem Bus.portOf_setPort (b : Bus) (m k : Master) (p : MasterPort) :
    (b.setPort m p).portOf k = if k = m then p else b.portOf k := by
  have hi : k.idx = m.idx ↔ k = m := by cases m <;> cases k <;> decide
  simp only [Bus.setPort, Bus.portOf]
  by_cases h : k = m
  · subst h; simp
  · have h' : ¬ (m.idx : Nat) = k.idx := fun e => h (hi.1 (Fin.ext e.symm))
    simp [h, h']

/-- Acceptance into the queue: the write merges into the entry of its line, or opens one at the tail; 13 entries begin a drain
burst; nothing else of the passage changes (R7, R10, R12). -/
theorem Bus.accept_spec (w : WriteReq) (b : Bus) :
    ∃ q, b.accept w =
        { b with
          queue := q
          drain := b.drain || decide (13 ≤ q.length)
          burst := if b.drain = false ∧ 13 ≤ q.length then 0 else b.burst } ∧
      q = if b.holdsLine w.line then
          b.queue.map fun e => if e.line = w.line then e.merge w (b.readWaits w.line) else e
        else b.queue ++ [⟨w.line, w.data, w.enables, w.master, b.readWaits w.line⟩] := by
  refine ⟨_, ?_, rfl⟩
  simp only [Bus.accept]
  generalize (if b.holdsLine w.line = true then _ else _ : List QueueEntry) = q
  cases hd : b.drain <;> by_cases hq : 13 ≤ q.length <;> simp [hq]

/-- A write that has a place can be taken (R8). -/
theorem State.canTake_of_hasPlace {u : State} {w : WriteReq} (h : u.hasPlace w) :
    u.canTake u.bus.waiting w = true := by
  rcases h with h | ⟨h1, h2⟩
  · simp [State.canTake, State.needsPlace, h]
  · simp only [State.canTake, Bool.or_eq_true, Bool.and_eq_true, decide_eq_true_eq]
    exact .inr ⟨h1, by simpa using h2⟩

/-- A queueing write can be taken only when it has a place (R8). -/
theorem State.hasPlace_of_canTake {u : State} {w : WriteReq} (hq : u.queueing w = true)
    (h : u.canTake u.bus.waiting w = true) : u.hasPlace w := by
  simp only [State.canTake, State.needsPlace, hq, Bool.true_and, Bool.or_eq_true, Bool.and_eq_true,
    decide_eq_true_eq, Bool.not_not] at h
  rcases h with h | ⟨h1, h2⟩
  · exact .inl h
  · exact .inr ⟨h1, by simpa [State.needsPlace] using h2⟩

/-! ## Frames -/

theorem Frames.at_put (f : Frames) (n : Nat) (r : FrameRecord) (h : n < 64) (k : Nat) :
    (f.put n r).at k = if k = n then r else f.at k := by
  simp only [Frames.put, Frames.at]
  by_cases hk : k = n
  · subst hk; simp [h]
  · have : n ≠ k := fun e => hk e.symm
    simp [hk, this]

/-- A frame number at or above 64 has the absent record, and writing it changes nothing (R49). -/
theorem Frames.at_of_le (f : Frames) (n : Nat) (h : 64 ≤ n) : f.at n = .absent := by simp [Frames.at, h]

theorem Frames.put_of_le (f : Frames) (n : Nat) (r : FrameRecord) (h : 64 ≤ n) : f.put n r = f := by
  have e : f.table.setIfInBounds n r = f.table := by
    ext i hi; simp [show n ≠ i by omega]
  cases f; simp only [Frames.put] at *; rw [e]

@[simp] theorem Frames.put_window (f : Frames) (n : Nat) (r : FrameRecord) : (f.put n r).window = f.window := rfl
@[simp] theorem Frames.put_free (f : Frames) (n : Nat) (r : FrameRecord) : (f.put n r).free = f.free := rfl
@[simp] theorem Frames.put_hold (f : Frames) (n : Nat) (r : FrameRecord) : (f.put n r).hold = f.hold := rfl

/-- One release changes the table at its frame alone, and the event queue (R36). -/
theorem releaseOne_frame (s : State) (need : Nat × Nat) :
    releaseOne s need =
      { s with
        frames := { s.frames with table := (releaseOne s need).frames.table }
        mirror := (releaseOne s need).mirror } := by
  simp only [releaseOne]
  split
  · split <;> rfl
  · rfl

/-- The releases of an order change the frame table's records and the event queue alone (R36). -/
theorem State.release_frame (o : Order) (s : State) :
    s.release o =
      { s with
        frames := { s.frames with table := (s.release o).frames.table }
        mirror := (s.release o).mirror } := by
  unfold State.release
  induction o.needs generalizing s with
  | nil => rfl
  | cons x xs ih =>
    simp only [List.foldl_cons]
    rw [ih (releaseOne s x), releaseOne_frame s x]

/-! ## Orders -/

theorem Orders.slot_putSlot (o : Orders) (k : Nat) (x : Slot) (h : k < 32) (j : Nat) :
    (o.putSlot k x).slot j = if j = k then x else o.slot j := by
  simp only [Orders.putSlot, Orders.slot]
  by_cases hk : j = k
  · subst hk; simp [h]
  · have : k ≠ j := fun e => hk e.symm
    simp [hk, this]

/-- A post enables bytes (R53). -/
theorem isPost_enables {w : WriteReq} (h : isPost w = true) : w.enables ≠ 0 := by
  rintro h2; simp [isPost, enablesWord, h2] at h

/-- The reprint list gains exactly the inserted copy (R148). -/
theorem mem_insertCopy (c x : OrderCopy) (l : List OrderCopy) : x ∈ insertCopy c l ↔ x = c ∨ x ∈ l := by
  induction l with
  | nil => simp [insertCopy]
  | cons y ys ih =>
    simp only [insertCopy]
    split
    · simp
    · simp [ih, or_left_comm]

theorem length_insertCopy (c : OrderCopy) (l : List OrderCopy) : (insertCopy c l).length = l.length + 1 := by
  induction l with
  | nil => rfl
  | cons y ys ih => simp only [insertCopy]; split <;> simp [ih]

/-! ## Tracking -/

/-- A change of a record in place that keeps its order copy is seen by `find` (R122). -/
theorem Tracking.find_modify (t : Tracking) (q k : Seq) (g : Record → Record) (hg : ∀ r, (g r).copy = r.copy) :
    (t.modify q g).find k = (t.find k).map fun r => if r.seq = q then g r else r := by
  have hs : ∀ r : Record, (if r.seq = q then g r else r).seq = r.seq := by
    intro r; split
    · simp only [Record.seq, hg]
    · rfl
  simp only [Tracking.find, Tracking.modify, List.find?_map]
  congr 1
  apply congrArg (fun p => List.find? p t.table)
  funext r; simp only [Function.comp, hs]

/-- What `find` answers is a record of that sequence. -/
theorem Tracking.seq_of_find {t : Tracking} {q : Seq} {r : Record} (h : t.find q = some r) : r.seq = q := by
  have := List.find?_some h; simpa using this

theorem Tracking.mem_of_find {t : Tracking} {q : Seq} {r : Record} (h : t.find q = some r) : r ∈ t.table :=
  List.mem_of_find?_eq_some h

/-! ## Events -/

/-- An event joins the queue, or is discarded with EVENT_OVERRUN; the head and every other field stay (R171). -/
theorem Mirror.push_cases (r : EventRecord) (m : Mirror) :
    (m.count < 32 ∧ m.push r =
      { m with events := m.events.setIfInBounds ((m.head + m.count) % 32) (some r),
               count := m.count + 1 }) ∨
    (32 ≤ m.count ∧ m.push r = { m with eventOverrun := true }) := by
  by_cases h : m.count < 32
  · refine .inl ⟨h, ?_⟩
    simp only [Mirror.push, if_pos h]
  · exact .inr ⟨by omega, by simp only [Mirror.push, if_neg h]⟩

/-! ## Jams -/

/-- A jam cause taken in a driven state; its explicit outcome (R96, R154, R155). -/
theorem State.jam_driven {s : State} (h : s.driven = true) (c : JamCode) (st : Option Sensor) (q : Option Seq)
    (a : PathCount) : s.jam c st q a = s.jammedWith ⟨c, st, q, a⟩ := by
  simp only [State.jam, h, if_true]; rfl

/-- A jam cause taken in any other state changes nothing (R96). -/
theorem State.jam_stopped {s : State} (h : s.driven = false) (c : JamCode) (st : Option Sensor) (q : Option Seq)
    (a : PathCount) : s.jam c st q a = s := by
  simp [State.jam, h]

/-! ## Requests -/

/-- A mirror write that the mirror takes is completed with its effect (R4, R166). -/
theorem mirrorCommand_taken {m : Master} {f : State → State} {s : State} (h : s.settle.mirrorHears m) :
    mirrorCommand m f s = .next ((f s.settle).answer m .completion) := by
  obtain ⟨⟨h1, h2⟩, h3, h4⟩ := h
  simp [mirrorCommand, h1, h2, h3, h4]

/-- A control word with the other toggle is handed to its owner with its bytes and toggle stored (R167). -/
theorem controlWord_taken {code a b x : Byte} {u : State} (h : b.getLsbD 0 ≠ u.mirror.lastToggle) :
    controlWord code a b x u = dispatchRequest code a
      { u with mirror := { u.mirror with control := x ++ b ++ a ++ code, lastToggle := b.getLsbD 0 } } := by
  simp only [controlWord, if_neg h]

/-- A control word with the last-taken toggle keeps its bytes alone (R167). -/
theorem controlWord_repeat {code a b x : Byte} {u : State} (h : b.getLsbD 0 = u.mirror.lastToggle) :
    controlWord code a b x u = { u with mirror := { u.mirror with control := x ++ b ++ a ++ code } } := by
  simp only [controlWord, if_pos h]

/-! ## What has occurred -/

/-- A state with nothing outstanding is left as it is. -/
theorem State.settle_of_settled {s : State} (h : Settled s) : s.settle = s := by
  have : ∀ n, settleFuel n s = s := by
    intro n
    cases n with
    | zero => rfl
    | succ n =>
      unfold Settled at h
      simp only [settleFuel, h]
  exact this _

/-- The write of ARM is an arm attempt (R17). -/
theorem armRequest_isArmAttempt (m : Master) (en : Enables) (data : Line) :
    isArmAttempt 7 (armRequest m en data).enables (armRequest m en data).data = true := by
  simp only [isArmAttempt, armRequest, Bool.and_eq_true, beq_iff_eq, true_and]
  refine ⟨?_, ?_⟩
  · simp only [enablesWord, beq_iff_eq]
    ext i hi
    have : i = 0 ∨ i = 1 ∨ i = 2 ∨ i = 3 := by omega
    rcases this with rfl | rfl | rfl | rfl <;> simp
  · simp only [lineField, mergeLine]
    ext i hi
    have hk : (8 * 24 + i) / 8 = 24 + i / 8 := by omega
    have hm : (8 * 24 + i) % 8 = i % 8 := by omega
    have h3 : 8 * 24 + i < 256 := by omega
    simp only [BitVec.getElem_extractLsb', getLsbD_packBytes, hk, hm, h3, decide_true, Bool.true_and]
    have hd : i / 8 = 0 ∨ i / 8 = 1 ∨ i / 8 = 2 ∨ i / 8 = 3 := by omega
    have he : (0x0F000000#32).getLsbD (24 + i / 8) = true := by
      rcases hd with h | h | h | h <;> rw [h] <;> rfl
    rw [he, if_pos rfl]
    have h8 : i % 8 < 8 := by omega
    have hs : 8 * (24 + i / 8) + i % 8 = 192 + i := by omega
    simp only [byteAt, BitVec.getLsbD_extractLsb', h8, decide_true, Bool.true_and, hs,
      BitVec.getLsbD_shiftLeft]
    have h9 : ¬ 192 + i < 192 := by omega
    have h10 : 192 + i < 256 := by omega
    simp only [h9, h10, decide_true, decide_false, Bool.not_false, Bool.true_and, Nat.add_sub_cancel_left]
    rw [show (0x34100001#256) = (0x34100001#32).setWidth 256 from rfl, BitVec.getLsbD_setWidth]
    have h11 : i < 256 := by omega
    simp only [h11, decide_true, Bool.true_and]
    exact BitVec.getLsbD_eq_getElem hi

/-! ## Setup -/

/-- What the statements need of a passed validation (R18, checks 2 and 13). -/
theorem validate_marks {v : Setup} (h : validate v = .passed) :
    1 ≤ v.frameCount ∧ v.frameCount ≤ 64 ∧ v.paceLow < v.paceHigh ∧ v.paceHigh ≤ v.frameCount := by
  simp only [validate] at h
  split at h
  · rename_i c hc
    exfalso
    have hall : (setupChecks v).all (fun x => x.2 != .passed) = true := rfl
    have hm := List.all_eq_true.mp hall c (List.mem_of_find?_eq_some hc)
    simp [h] at hm
  · rename_i hc
    simp only [List.find?_eq_none] at hc
    have h1 := hc (decide (v.paceLow < v.paceHigh ∧ v.paceHigh ≤ v.frameCount), .paceMarks) (by simp [setupChecks])
    have h2 := hc (decide (1 ≤ v.frameCount ∧ v.frameCount ≤ 64), .frameCount) (by simp [setupChecks])
    simp at h1 h2
    exact ⟨by omega, h2.2, h1.1, h1.2⟩

/-! ## Edges and the path's stop -/

/-- The deliverable edge of a sensor is of that sensor and direction (R76). -/
theorem State.edgeNow_facts {s : State} {sn : Sensor} {l : Bool} {e : Edge} (he : s.edgeNow sn l = some e) :
    e.leading = l ∧ e.sensor = sn := by
  simp only [State.edgeNow] at he
  split at he
  · rename_i x hx
    split at he
    · rename_i h
      cases he
      have := List.find?_some hx
      simp at this
      exact ⟨h.1, this⟩
    · cases he
  · cases he

/-- The stop of an emptied DRAINING path (R97). -/
theorem State.drainDone_eq {s : State} {b : Bool} (h : b = true ↔ s.seqr.path = .draining ∧ s.track.table = []) :
    s.drainDone = if b then s.stoppedIn .idle else s := by
  simp only [State.drainDone]
  cases b
  · rw [if_neg fun h2 => absurd (h.2 h2) (by simp)]; rfl
  · rw [if_pos (h.1 rfl)]; rfl

/-- An insertion in the reprint list keeps the path state (R148). -/
@[simp] theorem State.toReprint_path (u : State) (c : OrderCopy) : (u.toReprint c).seqr.path = u.seqr.path := by
  simp only [State.toReprint]; split <;> rfl

/-! ## Records -/

/-- A change of every record that keeps the order copies is seen by `find`. -/
theorem Tracking.find_map (t : Tracking) (g : Record → Record) (hg : ∀ r, (g r).copy = r.copy) (k : Seq) :
    ({ t with table := t.table.map g } : Tracking).find k = (t.find k).map g := by
  have hs : ∀ r : Record, (g r).seq = r.seq := by intro r; simp only [Record.seq, hg]
  simp only [Tracking.find, List.find?_map]
  congr 1
  apply congrArg (fun p => List.find? p t.table)
  funext r; simp only [Function.comp, hs]

/-- A revision of a decision changes the phase alone (R141). -/
theorem Record.revert_facts (r : Record) :
    r.revert.copy = r.copy ∧ r.revert.spoiled = r.spoiled ∧ r.revert.leadStamp = r.leadStamp ∧
      r.revert.nextVisit = r.nextVisit := by
  simp only [Record.revert]; split <;> simp

/-- The gate lines' following of the head changes the lines alone (R140). -/
theorem Tracking.showHead_frame (t : Tracking) :
    t.showHead = { t with purgeGate := t.showHead.purgeGate, jogB := t.showHead.jogB } := by
  simp only [Tracking.showHead, Tracking.showDecision]
  split
  · rfl
  · split
    · split <;> rfl
    · rfl

@[simp] theorem Tracking.leaveGate_table (t : Tracking) (q : Seq) : (t.leaveGate q).table = t.table := by
  simp only [Tracking.leaveGate]
  split
  · rw [Tracking.showHead_frame]
  · rfl

@[simp] theorem Tracking.joinGate_table (t : Tracking) (q : Seq) : (t.joinGate q).table = t.table := by
  simp only [Tracking.joinGate]
  split
  · rw [Tracking.showHead_frame]
  · rfl

/-- The stuck deadline's move changes the deadlines alone (R129). -/
theorem Tracking.moveStuck_frame (u : Setup) (sn : Sensor) (o : Occupancy) (t : Tracking) :
    t.moveStuck u sn o = { t with deadlines := (t.moveStuck u sn o).deadlines } := by
  simp only [Tracking.moveStuck]
  split
  · rfl
  · split <;> rfl

/-- The occupancies of a record once `sn` is emptied are those at the other sensors (R129). -/
theorem Tracking.mem_occupancies (t : Tracking) (sn : Sensor) (o : Occupancy) (other : Sensor) (x : Occupancy) :
    (other, x) ∈ (t.putOccupant sn none).occupancies o ↔
      other ≠ sn ∧ t.occupant other = some x ∧ x.seq = o.seq ∧ x.launch = o.launch := by
  have hp : (t.putOccupant sn none).occupant other = if other = sn then none else t.occupant other := by
    simp only [Tracking.occupant, Tracking.putOccupant, Fin.getElem_fin, Vector.getElem_set]
    have : (sn.idx : Nat) = other.idx ↔ other = sn := by cases sn <;> cases other <;> decide
    simp [this]
  have ha : other ∈ Sensor.all := by cases other <;> decide
  simp only [Tracking.occupancies, List.mem_filterMap]
  constructor
  · rintro ⟨a, _, h⟩
    split at h
    · rename_i y hy
      split at h
      · rename_i hs
        cases h
        rw [hp] at hy
        by_cases he : other = sn
        · simp [he] at hy
        · simp only [he, if_false] at hy
          simp only [Occupancy.sameRecord, Bool.and_eq_true, beq_iff_eq] at hs
          exact ⟨he, hy, hs⟩
      · cases h
    · cases h
  · rintro ⟨h1, h2, h3⟩
    refine ⟨other, ha, ?_⟩
    simp [hp, h1, h2, Occupancy.sameRecord, h3]

/-- An occupancy that came first is the older, and the other is not. -/
theorem Occupancy.olderThan_of_before {a b : Occupancy} (h : a.before b) : a.olderThan b = true ∧ b.olderThan a = false := by
  rcases h with h | ⟨h1, h2⟩
  · have hne : (b.stamp == a.stamp) = false := by
      simp only [isBefore, isAfter, Bool.and_eq_true, decide_eq_true_eq] at h
      rw [beq_eq_false_iff_ne]; rintro e; rw [e] at h; simp at h
    have hb : isBefore b.stamp a.stamp = false := by
      simp only [isBefore, isAfter, Bool.and_eq_true, decide_eq_true_eq, Bool.and_eq_false_iff,
        decide_eq_false_iff_not] at h ⊢
      bv_omega
    simp [Occupancy.olderThan, h, hne, hb]
  · have hx : isBefore a.stamp a.stamp = false := by simp [isBefore, isAfter]
    simp only [Occupancy.olderThan, h1, beq_self_eq_true, Bool.true_and]
    rw [h1] at hx; simp [hx]; omega

theorem oldestOf_mem {l : List (Sensor × Occupancy)} {p : Sensor × Occupancy} (h : oldestOf l = some p) : p ∈ l := by
  induction l with
  | nil => simp [oldestOf] at h
  | cons y ys ih =>
    simp only [oldestOf] at h
    split at h
    · cases h; simp
    · rename_i z hz
      split at h
      · cases h; simp
      · cases h; exact List.mem_cons_of_mem _ (ih hz)

/-- The occupancy that came before all others is the oldest. -/
theorem oldestOf_eq {l : List (Sensor × Occupancy)} {p : Sensor × Occupancy} (hp : p ∈ l)
    (h : ∀ q ∈ l, q = p ∨ p.2.before q.2) : oldestOf l = some p := by
  induction l with
  | nil => simp at hp
  | cons y ys ih =>
    simp only [oldestOf]
    by_cases hys : p ∈ ys
    · rw [ih hys fun q hq => h q (List.mem_cons_of_mem _ hq)]
      rcases h y (by simp) with rfl | hb
      · simp
      · simp [(Occupancy.olderThan_of_before hb).2]
    · have hy : p = y := by simpa [hys] using hp
      subst hy
      split
      · rfl
      · rename_i z hz
        have hz' := oldestOf_mem hz
        rcases h z (List.mem_cons_of_mem _ hz') with rfl | hb
        · exact absurd hz' hys
        · simp [(Occupancy.olderThan_of_before hb).1]

/-- The stuck deadline's move follows R129's cases. -/
theorem Tracking.moveStuck_follows (u : Setup) (t : Tracking) (sn : Sensor) (o : Occupancy) :
    StuckFollows u t sn o ((t.putOccupant sn none).moveStuck u sn o).deadlines := by
  refine ⟨fun h => ?_, fun oldest x hx hold => ?_⟩
  · have hn : oldestOf ((t.putOccupant sn none).occupancies o) = none := by
      cases he : oldestOf ((t.putOccupant sn none).occupancies o) with
      | none => rfl
      | some p => exact absurd ((Tracking.mem_occupancies t sn o p.1 p.2).1 (oldestOf_mem he)) (h p.1 p.2)
    simp only [Tracking.moveStuck, hn]; rfl
  · have ho : oldestOf ((t.putOccupant sn none).occupancies o) = some (oldest, x) := by
      refine oldestOf_eq ((Tracking.mem_occupancies t sn o oldest x).2 hx) fun q hq => ?_
      have hm := (Tracking.mem_occupancies t sn o q.1 q.2).1 hq
      by_cases hs : q.1 = oldest
      · have h1 := hm.2.1; rw [hs, hx.2.1] at h1
        exact .inl (Prod.ext hs (Option.some.inj h1).symm)
      · exact .inr (hold q.1 q.2 hm hs)
    simp only [Tracking.moveStuck, ho]
    refine ⟨fun hb => ?_, fun hb => ?_⟩
    · rw [if_pos (Occupancy.olderThan_of_before hb).1]; rfl
    · rw [if_neg (by simp [(Occupancy.olderThan_of_before hb).2])]; rfl

/-- The gate queue loses the record; the lines follow a new head and are otherwise kept (R138, R140). -/
theorem Tracking.leaveGate_spec (t : Tracking) (q : Seq) : ∃ lines : Bool × Bool,
    t.leaveGate q =
      { t with gateQueue := t.gateQueue.filter (fun y => y != q), purgeGate := lines.1, jogB := lines.2 } ∧
    (t.gateQueue.head? ≠ some q ∨ t.gateQueue.filter (fun y => y != q) = [] → lines = (t.purgeGate, t.jogB)) ∧
    ∀ x tail, t.gateQueue.head? = some q → t.gateQueue.filter (fun y => y != q) = x :: tail →
      lines = gateLevels (t.decisionOf x) t.purgeGate t.jogB := by
  simp only [Tracking.leaveGate]
  generalize t.gateQueue.filter (fun y => y != q) = gate
  by_cases hh : t.gateQueue.head? = some q
  · simp only [hh, if_true, Tracking.showHead]
    cases gate with
    | nil => exact ⟨_, rfl, fun _ => rfl, by simp⟩
    | cons x xs =>
      refine ⟨gateLevels (t.decisionOf x) t.purgeGate t.jogB, ?_, by simp, by rintro _ _ - ⟨⟩; rfl⟩
      have : Tracking.decisionOf { t with gateQueue := x :: xs } x = t.decisionOf x := rfl
      simp only [this]
      rcases t.decisionOf x with _ | d
      · rfl
      · rcases d with k | _
        · cases k <;> rfl
        · rfl
  · simp only [hh, if_false]
    exact ⟨_, rfl, fun _ => rfl, fun _ _ h => absurd h (by simp)⟩

/-- A record leaves the path: it leaves the table and the gate queue, its open faces are closed and its calendar slots freed,
and nothing else changes (R106, R136, R138). -/
theorem State.leavePath_frame (s : State) (q : Seq) :
    s.leavePath q =
      { s with
        track := { s.track.leaveGate q with table := s.track.table.filter fun y => y.seq != q }
        frames := { s.frames with window := (s.frames.closeSheet q).window }
        launch := { s.launch with calendar := (s.freeSheet q).launch.calendar } } := by
  simp only [State.leavePath, Tracking.remove, State.onTrack, Tracking.leaveGate_table]; rfl

/-- Spoiling changes records, D_gate and PURGE_GATE alone (R135, R141). -/
theorem Tracking.spoil_frame (t : Tracking) (q : Seq) (w : SpoilReason) :
    t.spoil q w =
      { t with
        table := (t.spoil q w).table
        dGate := (t.spoil q w).dGate
        purgeGate := (t.spoil q w).purgeGate } := by
  simp only [Tracking.spoil]
  split
  · rfl
  · split
    · rfl
    · split <;> rfl

/-! ## The frame table at a path reset -/

/-- The counts of the first `k` frames are cleared, their BOUND frames READY with FRAME_RELEASED each, in ascending order
(R38). -/
theorem resetFrames_fold (s : State) : ∀ k, k ≤ 64 → ∃ f m,
    (List.range k).foldl resetFrame s = { s with frames := { s.frames with table := f }, mirror := m } ∧
    (∀ n, ({ s.frames with table := f } : Frames).at n =
      if n < k then
        { s.frames.at n with
          state := if (s.frames.at n).state = .bound then .ready else (s.frames.at n).state
          count := 0 }
      else s.frames.at n) ∧
    m = (List.range k).foldl (fun m n =>
      if (s.frames.at n).state = .bound then
        m.push ⟨.frameReleased n (s.frames.at n).generation, s.clock.pathCount⟩
      else m) s.mirror := by
  intro k
  induction k with
  | zero => intro _; exact ⟨s.frames.table, s.mirror, rfl, by intro n; simp, rfl⟩
  | succ k ih =>
    intro hk
    obtain ⟨f, m, h1, h2, h3⟩ := ih (by omega)
    have hat : ({ s.frames with table := f } : Frames).at k = s.frames.at k := by rw [h2]; simp
    have hpt : ∀ r n, (({ s.frames with table := f } : Frames).put k r).at n =
        if n = k then r else ({ s.frames with table := f } : Frames).at n :=
      fun r n => Frames.at_put _ _ _ (by omega) n
    rw [List.range_succ, List.foldl_append, List.foldl_append, h1, ← h3]
    simp only [List.foldl_cons, List.foldl_nil, resetFrame, hat]
    by_cases hb : (s.frames.at k).state = .bound
    · simp only [if_pos hb]
      refine ⟨(({ s.frames with table := f } : Frames).put k
        { s.frames.at k with state := .ready, count := 0 }).table, _, rfl, ?_, rfl⟩
      intro n
      refine (hpt _ n).trans ?_
      by_cases hn : n = k
      · subst hn; simp [hb]
      · rw [if_neg hn, h2]
        by_cases h : n < k
        · simp [h, show n < k + 1 by omega]
        · simp [h, show ¬ n < k + 1 by omega]
    · simp only [if_neg hb]
      refine ⟨(({ s.frames with table := f } : Frames).put k { s.frames.at k with count := 0 }).table, _, rfl, ?_, rfl⟩
      intro n
      refine (hpt _ n).trans ?_
      by_cases hn : n = k
      · subst hn; simp [hb]
      · rw [if_neg hn, h2]
        by_cases h : n < k
        · simp [h, show n < k + 1 by omega]
        · simp [h, show ¬ n < k + 1 by omega]

/-- Taking the references of an order whose frames are not stale (R35): each named frame is BOUND with its count raised by the
references the order needs, every other frame and field stays. -/
theorem Frames.takeRefs_spec (o : Order) (F : Frames) (hst : ∀ f ∈ o.names, F.stale f = false) :
    o.needs.foldl Frames.takeRef F = { F with table := (o.needs.foldl Frames.takeRef F).table } ∧
    ∀ n, (o.needs.foldl Frames.takeRef F).at n = if o.refsOn n = 0 then F.at n
      else { F.at n with state := .bound, count := (F.at n).count + o.refsOn n } := by
  have lt : ∀ f ∈ o.names, f.frame < 64 := by
    intro f hf; refine Classical.byContradiction fun h => ?_
    have := hst f hf; rw [Frames.stale, Frames.at_of_le _ _ (by omega)] at this; simp [FrameRecord.absent] at this
  have at1 : ∀ (G : Frames) (n k : Nat), n < 64 → ∀ j, (G.takeRef (n, k)).at j =
      if j = n then { G.at n with state := .bound, count := (G.at n).count + k } else G.at j := by
    intro G n k h j; exact Frames.at_put G n _ h j
  simp only [Order.names, Order.needs, Order.refsOn, refsIn] at *
  obtain hf | ⟨f, hf⟩ := Option.eq_none_or_eq_some o.front <;>
    obtain hb | ⟨g, hb⟩ := Option.eq_none_or_eq_some o.back <;>
    simp only [hf, hb] at hst lt ⊢ <;> clear hst
  · exact ⟨rfl, fun n => by simp⟩
  · refine ⟨rfl, fun n => ?_⟩
    have := lt g (by simp)
    simp only [List.foldl_cons, List.foldl_nil, at1 _ _ _ this]
    by_cases h : n = g.frame
    · subst h; simp
    · have : g.frame ≠ n := fun e => h e.symm
      simp [h, this]
  · refine ⟨rfl, fun n => ?_⟩
    have := lt f (by simp)
    simp only [List.foldl_cons, List.foldl_nil, at1 _ _ _ this]
    by_cases h : n = f.frame
    · subst h; simp
    · have : f.frame ≠ n := fun e => h e.symm
      simp [h, this]
  · have l1 := lt f (by simp)
    have l2 := lt g (by simp)
    by_cases hfg : f.frame = g.frame
    · simp only [hfg, if_true]
      refine ⟨rfl, fun n => ?_⟩
      simp only [List.foldl_cons, List.foldl_nil, at1 _ _ _ l2]
      by_cases h : n = g.frame
      · subst h; simp
      · have : g.frame ≠ n := fun e => h e.symm
        simp [h, this]
    · simp only [hfg, if_false]
      refine ⟨rfl, fun n => ?_⟩
      simp only [List.foldl_cons, List.foldl_nil, at1 _ _ _ l2, at1 _ _ _ l1]
      by_cases h : n = g.frame
      · subst h; have : ¬ g.frame = f.frame := fun e => hfg e.symm; simp [this, hfg]
      · have : g.frame ≠ n := fun e => h e.symm
        by_cases h' : n = f.frame
        · subst h'; simp [h, this]
        · have : f.frame ≠ n := fun e => h' e.symm
          have h4 : g.frame ≠ n := fun e => h e.symm
          simp [h, h', this, h4]

end Sys2Proof.Machine
end

