-- ==== Sys2Proof/Tests/Slice0.lean ====
section
/-! SUPPORT. Tests: the well-formedness checks, examples of the spec's own tables, and for each statement with hypotheses
concrete states and operands that meet them. -/

namespace Sys2Proof.Machine.Tests

/-! ## States and operands -/

/-- The setup of the worked derivation (02_setup_and_arming.md 2.4), with limits of its own for the rest. -/
def exampleSetup : Setup where
  memorySize := 67108864
  frameSize := 1048576
  frameCount := 48
  pickRetries := 1
  frameBase := 16777216
  stagingBase := 65536
  mirrorBase := 131072
  pitch := 2400
  windowHalf := 300
  tolerance := 40
  stuckMargin := 1200
  gateTravel := 1
  filterLength := 3
  stallLimit := 200
  startLimit := 3000
  idleLimit := 50000
  offsets := #v[600, 3000, 5200, 7800, 12100, 15000, 20500, 22700, 25300, 29600]
  paceLow := 4
  paceHigh := 12
  blankByte := 0xEE
  firstSequence := 41

/-- A line of bytes, the first at the lowest address; the rest zero. -/
def lineOf (bytes : List Nat) : Line := packBytes fun i => BitVec.ofNat 8 (bytes.getD i 0)

/-- The setup image of `exampleSetup`, written out from the table of 11.1. -/
def imageLine : Nat → Line
  | 0 => lineOf [1, 1, 48, 1, 0, 0, 0, 1, 0, 0, 1, 0, 0, 0, 2, 0, 0x60, 0x09, 0x2C, 0x01, 40, 0, 0xB0, 0x04, 1, 3,
      200, 0, 0xB8, 0x0B, 0x50, 0xC3]
  | 1 => lineOf [0x58, 0x02, 0, 0, 0xB8, 0x0B, 0, 0, 0x50, 0x14, 0, 0, 0x78, 0x1E, 0, 0, 0x44, 0x2F, 0, 0, 0x98, 0x3A, 0, 0,
      0x14, 0x50, 0, 0, 0xAC, 0x58, 0, 0]
  | 2 => lineOf [0xD4, 0x62, 0, 0, 0xA0, 0x73, 0, 0, 4, 12, 0xEE, 0, 41, 0, 0, 0]
  | _ => 0

/-- The reset state with the example's setup captured. -/
def captured : State :=
  { State.reset with latch := { State.reset.latch with
      image := #v[imageLine 0, imageLine 1, imageLine 2, 0, 0, 0, 0, 0] } }

/-- Armed with the example's setup, the cover closed. -/
def ready : State :=
  State.armAccept State.reset.latch.image exampleSetup
    { State.reset with pins := { State.reset.pins with coverClosed := true } }

/-- `ready` in a path state. -/
def inPath (p : PathState) : State := { ready with seqr := { ready.seqr with path := p } }

/-- A write to other memory. -/
def plain : WriteReq := ⟨.formatter, 8192, 0xF#32, 0x11223344#256⟩

/-- `ready` with a write queue of `n` entries at other lines, and drain mode as given. -/
def queued (n : Nat) (drain : Bool) : State :=
  { ready with bus := { ready.bus with
      queue := (List.range n).map fun i => ⟨BitVec.ofNat 27 (9000 + i), 0, 1, .formatter, false⟩
      drain := drain } }

/-- A simplex order on frame 0, generation 1: sequence 41, set 7 index 1 (last), tray 0, stack A, length 2,160 (11.2). -/
def orderLine : Line :=
  lineOf [41, 0, 0, 0, 7, 0, 0, 1, 1, 1, 0, 1, 0x70, 0x08, 0, 1, 0xFF, 0, 0, 0, 0, 0, 0, 0, 0, 0, 0, 0, 0x5A, 0x5A, 0, 0]

/-- The post of that order to slot 0. -/
def postWrite (l : Line) : WriteReq := ⟨.controlProcessor, 2048, 0xFFFFFFFF#32, l⟩

/-- `s` with frame 0 as given and the free-frame count of a table whose other frames are FREE. -/
def withFrame0 (r : FrameRecord) (s : State) : State :=
  { s with frames := { s.frames.put 0 r with free := if r.state = .free then 48 else 47 } }

/-- Frame 0 committed once: READY, generation 1, toggle 1. -/
def committed (p : PathState) : State := withFrame0 ⟨.ready, 0, 1, true⟩ (inPath p)

/-- The order posted: frame 0 BOUND, slot 0 PENDING at the queue's head. -/
def posted (p : PathState) : State :=
  let s := withFrame0 ⟨.bound, 1, 1, true⟩ (inPath p)
  { s with orders :=
      { s.orders.putSlot 0 ⟨true, orderLine⟩ with queue := [0], ePost := 42, posted := ⟨false, 0, 0, .a, true⟩ } }

/-- The order as launched at pitch 1, path count 2,400. -/
def sheet : OrderCopy := ⟨orderOfLine orderLine, 0⟩

/-- The path RUNNING with that sheet launched and frame 0 BOUND. -/
def launched : State :=
  let s := withFrame0 ⟨.bound, 1, 1, true⟩ (inPath .running)
  launch (.reprint sheet) 1 2400
    { s with
      reprint := [sheet]
      clock := { s.clock with pathCount := 2400, pitchNo := 1 }
      orders := { s.orders with ePost := 42 } }

/-- `launched` at a path count, with an accepted edge waiting. -/
def withEdge (count : Nat) (e : Edge) : State :=
  { launched with clock := { launched.clock with pathCount := BitVec.ofNat 24 count, edges := [e] } }

/-- The sheet of `launched` awaiting visit `v` at `sn`, whose window is centred on `expected`. -/
def awaiting (sn : Sensor) (v : Nat) (expected count stamp : Nat) : State :=
  let s := withEdge count ⟨sn, true, BitVec.ofNat 24 stamp⟩
  { s with track :=
      { s.track with
        table := s.track.table.map fun r => { r with phase := .inPath, nextVisit := some v }
        arrivals := (Vector.replicate 6 []).set sn.idx [⟨41, BitVec.ofNat 24 expected⟩]
        deadlines := [⟨BitVec.ofNat 24 (expected + 301), .windowClose, sn, 41⟩] } }

/-- The sheet of `launched` on a sensor since `lead`, with its trailing edge at `trail` waiting. -/
def leaving (sn : Sensor) (v : Nat) (ph : Phase) (lead trail : Nat) : State :=
  let s := withEdge trail ⟨sn, false, BitVec.ofNat 24 trail⟩
  { s with track :=
      { s.track with
        table := s.track.table.map fun r => { r with phase := ph, nextVisit := none }
        arrivals := Vector.replicate 6 []
        occupants := (Vector.replicate 6 none).set sn.idx (some ⟨41, v, BitVec.ofNat 24 lead, 2400, 2160⟩)
        deadlines := [⟨BitVec.ofNat 24 (lead + 3360), .stuck, sn, 41⟩]
        gateQueue := if ph = .inPath then [] else [41]
        dGate := if ph = .decided (.good .a) then 42 else 41 } }

/-! ## Well-formedness: each check refuses an ill-formed command -/

theorem test_wf_setupWrite :
    Instr.wellFormed (.setupWrite .fetcher 0 1 0) = false ∧ Instr.wellFormed (.setupWrite .formatter 0 0 0) = false ∧
    Instr.wellFormed (.setupWrite .formatter 7 0x0F000000#32 (0x34100001#256 <<< 192)) = false ∧
    Instr.wellFormed (.setupWrite .formatter 0 1 0) = true := by decide +kernel

theorem test_wf_masters :
    ∀ c ∈ ([.arm .fetcher 0 0, .run .fetcher 0 1 0, .drain .fetcher 0 1 0, .halt .fetcher 0 1 0, .resume .fetcher 0 1 0,
      .standby .fetcher 0 1 0, .cancelPending .fetcher 0 1 0, .pathReset .fetcher 0 1 0, .clearTrayStall .fetcher 0 1 0,
      .releaseFrame .fetcher 0 1 0, .clearStanding .fetcher 0 1 0, .unknownRequest .fetcher 0 0 1 0,
      .eventsTaken .fetcher 1 0, .clearStandingWord .fetcher 1 0, .mirrorWriteIgnored .fetcher 0 1 0,
      .waitingWriteTaken .fetcher] : List Instr), c.wellFormed = false := by decide

theorem test_wf_unknownRequest :
    Instr.wellFormed (.unknownRequest .formatter 10 0 1 0) = false ∧
    Instr.wellFormed (.unknownRequest .formatter 1 0 1 0) = false ∧
    Instr.wellFormed (.unknownRequest .formatter 0 0 1 0) = true ∧
    Instr.wellFormed (.unknownRequest .formatter 11 0 1 0) = true := by decide

theorem test_wf_mirrorWriteIgnored :
    Instr.wellFormed (.mirrorWriteIgnored .formatter 8 0xF 0) = false ∧
    Instr.wellFormed (.mirrorWriteIgnored .formatter 10 0x1F 0) = false ∧
    Instr.wellFormed (.mirrorWriteIgnored .formatter 8 0 0) = false ∧
    Instr.wellFormed (.mirrorWriteIgnored .formatter 8 0x7 0) = true := by decide

/-! ## The spec's own examples -/

/-- 2.4: Dx = 2, Ds = 5, Lp = 7, and every check passes. -/
theorem test_example_constants :
    exampleSetup.dx = 2 ∧ exampleSetup.ds = 5 ∧ exampleSetup.lp = 7 ∧ validate exampleSetup = .passed := by decide +kernel

/-- 2.4: O10 changed to 31,300 fails with LOOP. -/
theorem test_loop_by_offset :
    validate { exampleSetup with offsets := exampleSetup.offsets.set 9 31300 } = .loop := by decide +kernel

/-- 2.4: P changed to 2,600 fails with LOOP. -/
theorem test_loop_by_pitch : validate { exampleSetup with pitch := 2600 } = .loop := by decide +kernel

/-- 11.1: the image's bytes hold the values. -/
theorem test_setup_fields : setupOf captured.latch.image = exampleSetup := by decide +kernel

/-- R20: the arm write puts the values in force and enters IDLE, answering the master. -/
theorem test_arm :
    (match exec (.arm .formatter 0 0) captured with
      | .next t => decide (t.seqr.path = .idle ∧ t.setup = exampleSetup ∧ t.latch.armResult = .passed ∧
          t.orders.ePost = 41 ∧ t.bus.portOf .formatter = .answered .completion)
      | _ => false) = true := by decide +kernel

/-- 8.10: a FEED occupancy from 100,620 of a sheet of 2,160 counts has the stuck deadline 103,980. -/
theorem test_stuck_deadline : exampleSetup.stuckDeadline 100620 2160 = 103980 := by decide

/-- R83: the window's edges are within, one count outside them is not. -/
theorem test_window_edges :
    exampleSetup.classify 2700 (exampleSetup.windowOpen 3000) = .within ∧
    exampleSetup.classify 3300 (exampleSetup.windowOpen 3000) = .within ∧
    exampleSetup.classify 2699 (exampleSetup.windowOpen 3000) = .before ∧
    exampleSetup.classify 3301 (exampleSetup.windowOpen 3000) = .after := by decide

/-- 5.2: modular comparison across the wrap and at half the range. -/
theorem test_modular :
    isAfter (0 : PathCount) 0xFFFFFF = true ∧ isAfter (0x800000 : PathCount) 0 = false ∧
    isAfter (0x7FFFFF : PathCount) 0 = true ∧ isAtOrAfter (5 : PathCount) 5 = true := by decide

/-- No table row gives bits, so no word spells a command. -/
theorem test_decode : decodeTableWord 32 0x34100001 = none := rfl

/-- R26: after a valid delivery record of FFFFFFFFh the counters start at 0. -/
theorem test_start_wraps : ({ State.reset.latch with recordValid := true, recordSeq := 0xFFFFFFFF#32 }).startSeq exampleSetup = 0 := by
  decide

/-- R7: a merge replaces only the enabled bytes. -/
theorem test_merge : mergeLine 0x11223344#256 0xAABBCCDD#256 0b0101#32 = 0x11BB33DD#256 := by decide +kernel

/-- R70: the pulse that completes a pitch makes a tick with the new number and count. -/
theorem test_pitch_tick :
    (match exec .encPulse { inPath .running with clock := { ready.clock with pitchRem := 2399, pathCount := 7 } } with
      | .next t => decide (t.clock.tick = some ⟨1, 8, true⟩ ∧ t.clock.pitchRem = 0)
      | _ => false) = true := by decide +kernel

/-- R122, R125: the launched sheet waits at FEED for 2,400 + 600 with its window closing at 3,301. -/
theorem test_launch_awaits :
    launched.track.queueAt .feed = [⟨41, 3000⟩] ∧ launched.track.deadlines = [⟨3301, .windowClose, .feed, 41⟩] ∧
    launched.launch.lastExit = some 6 ∧ launched.pick 0 = true := by decide +kernel

/-! ## Witnesses: what the statements assume can be met -/

theorem validate_example : validate exampleSetup = .passed := by decide +kernel

theorem ready_at (n : Nat) : ready.frames.at n = if n < 48 then ⟨.free, 0, 0, false⟩ else .absent := by
  by_cases h : n < 64
  · simp [ready, State.armAccept, Frames.armed, Frames.evalPace, Frames.at, h]; rfl
  · have : ¬ n < 48 := by omega
    simp [Frames.at, h, this]

theorem frameInv_of (s : State) (r : FrameRecord) (hr : r.state = .bound ↔ 0 < r.count)
    (hs : s.setup = exampleSetup) (hf : ∀ n, s.frames.at n = if n = 0 then r else ready.frames.at n)
    (hc : s.frames.free = s.frames.countFree) (hp : 12 ≤ s.frames.free ∧ s.frames.hold = false) : FrameInv s := by
  refine ⟨fun _ => hs ▸ validate_example, fun n => ?_, hc, fun _ => ⟨fun h => ?_, fun _ => hp.2⟩⟩
  · rw [hf]; split
    · exact hr
    · rw [ready_at]; split <;> simp [FrameRecord.absent]
  · have : s.frames.free ≤ 4 := by rw [hs] at h; exact h
    omega

theorem withFrame0_inv (r : FrameRecord) (s : State) (hr : r.state = .bound ↔ 0 < r.count)
    (hs : s.setup = exampleSetup) (hf : s.frames = (withFrame0 r ready).frames)
    (hc : (withFrame0 r ready).frames.free = (withFrame0 r ready).frames.countFree)
    (hp : 12 ≤ (withFrame0 r ready).frames.free ∧ (withFrame0 r ready).frames.hold = false) : FrameInv s := by
  refine frameInv_of _ r hr hs (fun n => ?_) (by rw [hf]; exact hc) (by rw [hf]; exact hp)
  rw [hf]; exact Frames.at_put ready.frames 0 r (by decide) n

/-! ### The machine and its invariants -/

/-- An outcome is a next state. -/
def isNext (o : Host.Outcome State Fault Refusal) : Bool :=
  match o with
  | .next _ => true
  | .fault _ => false
  | .refused _ => false

theorem next_of {o : Host.Outcome State Fault Refusal} (h : isNext o = true) : ∃ t, o = .next t := by
  cases o with
  | next t => exact ⟨t, rfl⟩
  | fault _ => simp [isNext] at h
  | refused _ => simp [isNext] at h

/-- `ready` with one command in front. -/
def before (c : Instr) (s : State) : State := { s with pending := [c] }

theorem witness_StepRunsFrontCommand :
    (before .encPulse ready).pending = .encPulse :: [] ∧ ready.pending = [] := ⟨rfl, rfl⟩

theorem witness_ExecKeepsQueue : ∃ t, exec .encPulse (before .encPulse ready) = .next t := next_of (by decide +kernel)

theorem witness_WriteQueueKept :
    WriteQueueInv (before (.busWrite plain) (queued 12 false)) ∧
    ∃ t, step (before (.busWrite plain) (queued 12 false)) = .next t := by
  refine ⟨?_, next_of (by decide +kernel)⟩
  unfold WriteQueueInv; decide +kernel

/-- `queued` at 16 with a read and a waiting write of two masters. -/
def busy : State :=
  { queued 16 true with bus := { (queued 16 true).bus with
      reads := [⟨.channelAdapter, 8300, 0xF, false, true⟩]
      waiting := [plain]
      port := .read .channelAdapter
      masters := #v[.free, .held, .held, .free] } }

theorem witness_MastersKept :
    MastersInv (before .memoryIssue busy) ∧ ∃ t, step (before .memoryIssue busy) = .next t := by
  refine ⟨⟨by decide +kernel, by decide +kernel, ?_⟩, next_of (by decide +kernel)⟩
  intro m h; cases m <;> first | exact absurd h (by decide +kernel) | decide +kernel

theorem posted_frames : FrameInv (posted .idle) :=
  withFrame0_inv ⟨.bound, 1, 1, true⟩ _ (by decide) rfl rfl (by decide +kernel) (by decide +kernel)

theorem witness_FramesKept :
    FrameInv (before (.cancelPending .formatter 0 1 0) (posted .idle)) ∧
    ∃ t, step (before (.cancelPending .formatter 0 1 0) (posted .idle)) = .next t :=
  ⟨withFrame0_inv ⟨.bound, 1, 1, true⟩ _ (by decide) rfl rfl (by decide +kernel) (by decide +kernel), next_of (by decide +kernel)⟩

/-- Two faces open, of two sheets on one frame. -/
def imaging : State :=
  { launched with frames := { launched.frames with window := [⟨0, [⟨41, .front⟩, ⟨40, .front⟩]⟩] } }

theorem witness_WindowKept :
    WindowInv (before (.trailingEdge .xfer) imaging) ∧
    ∃ t, step (before (.trailingEdge .xfer) imaging) = .next t := by
  refine ⟨?_, next_of (by decide +kernel)⟩
  unfold WindowInv; decide +kernel

theorem posted_pending (p : PathState) : PendingInv (posted p) := by
  refine ⟨by show [0].Nodup; decide, fun k => ?_⟩
  have h : (posted p).orders.slot k = if k = 0 then ⟨true, orderLine⟩ else ready.orders.slot k :=
    Orders.slot_putSlot ready.orders 0 _ (by decide) k
  rw [h]
  show k ∈ [0] ↔ _
  by_cases hk : k = 0
  · simp [hk]
  · have : (ready.orders.slot k).pending = false := by
      by_cases hl : k < 32 <;> simp [ready, State.armAccept, Orders.reset, Orders.slot, hl]
    simp [hk, this]

theorem witness_PendingKept :
    PendingInv (before (.cancelPending .formatter 0 1 0) (posted .idle)) ∧
    ∃ t, step (before (.cancelPending .formatter 0 1 0) (posted .idle)) = .next t :=
  ⟨posted_pending .idle, next_of (by decide +kernel)⟩

theorem witness_PathKept :
    PathInv (before (.drain .formatter 0 1 0) launched) ∧
    ∃ t, step (before (.drain .formatter 0 1 0) launched) = .next t := by
  refine ⟨?_, next_of (by decide +kernel)⟩
  unfold PathInv; decide +kernel

theorem launched_calendar : CalendarInv launched := by
  have h : ∀ c ∈ launched.launch.calendar.toList, c = none ∨ c = some ⟨41, .front⟩ := by decide +kernel
  intro c hc face hf
  refine ⟨newRecord exampleSetup 1 2400 sheet, by decide +kernel, ?_⟩
  rcases h c hc with h | h
  · rw [h] at hf; cases hf
  · rw [h] at hf; cases hf; decide +kernel

theorem witness_SheetsKept :
    TableRoomInv (before (.halt .formatter 0 1 0) launched) ∧ CalendarInv (before (.halt .formatter 0 1 0) launched) ∧
    ∃ t, step (before (.halt .formatter 0 1 0) launched) = .next t :=
  ⟨by unfold TableRoomInv; decide +kernel, launched_calendar, next_of (by decide +kernel)⟩

/-- `n` records in the event ring from position `head` on. -/
def withEvents (head n : Nat) (s : State) : State :=
  { s with mirror := { s.mirror with
      events := Vector.ofFn fun i : Fin 32 =>
        if (i.val + 32 - head) % 32 < n then some ⟨.standbyDeclined, BitVec.ofNat 24 i.val⟩ else none
      head := head
      count := n } }

theorem witness_EventRingKept :
    EventRingInv (before (.standby .formatter 0 1 0) (withEvents 31 32 ready)) ∧
    ∃ t, step (before (.standby .formatter 0 1 0) (withEvents 31 32 ready)) = .next t := by
  refine ⟨?_, next_of (by decide +kernel)⟩
  unfold EventRingInv; decide +kernel

/-- `ready` armed after a delivery of sequence 40. -/
def delivered : State := { ready with latch := { ready.latch with recordValid := true, recordSeq := 40 } }

theorem witness_DeliveryKept :
    DeliveryInv (before .encPulse delivered) ∧ ∃ t, step (before .encPulse delivered) = .next t := by
  refine ⟨?_, next_of (by decide +kernel)⟩
  unfold DeliveryInv; decide +kernel

/-! ### Resets and the bus -/

/-- A line-reset period in which these requests were presented. -/
def inPeriod (held : List Request) : State :=
  { State.reset with pins := { State.reset.pins with resetN := false }, bus := { State.reset.bus with heldRequests := held } }

theorem witness_HardwareResets :
    ready.settle.inReset = false ∧ (inPeriod []).settle.inReset = true := by decide +kernel

theorem witness_ResetPeriodEnds :
    (∀ held ∈ ([[], [.write plain], [.read ⟨.fetcher, 5, 1⟩, .write plain]] : List (List Request)),
      (inPeriod held).settle.pins.powerGood = true ∧ (inPeriod held).settle.pins.resetN = false ∧
      (inPeriod held).settle.bus.heldRequests = held) := by decide +kernel

theorem witness_RequestsAnsweredOrHeld :
    ready.settle.hears .fetcher ∧ (inPeriod []).settle.busHeld .fetcher = false ∧ (inPeriod []).settle.inReset = true ∧
    busy.settle.busHeld plain.master = true ∧ State.reset.settle.busHeld .formatter = false ∧
    State.reset.settle.armed = false := by
  unfold State.hears; decide +kernel

theorem witness_SetupWriteCaptured :
    State.reset.settle.hears .formatter ∧ State.reset.settle.armed = false ∧ Master.formatter ≠ .fetcher ∧
    (0xFFFFFFFF#32 : Enables) ≠ 0 ∧ (10000000#32 : Enables) ≠ 0 ∧
    isArmAttempt (7 : Fin 8).val 0xFFFFFFFF 0 = false ∧ isArmAttempt (0 : Fin 8).val 0x10000000 0 = false := by
  unfold State.hears; decide +kernel

/-- Reads of setup lines 0 and 7 by the fetcher, one with byte 252 enabled. -/
theorem witness_SetupWriteCaptured_reads :
    captured.settle.hears .fetcher ∧ captured.settle.armed = false ∧ (0xFF : Enables) ≠ 0 ∧
    (0 : LineNo) = BitVec.ofNat 27 (0 : Fin 8).val ∧ (7 : LineNo) = BitVec.ofNat 27 (7 : Fin 8).val ∧
    (0x10000000 : Enables).getLsbD 28 = true ∧ (0xFF : Enables).getLsbD 0 = true := by
  unfold State.hears; decide +kernel

/-- A byte of the answer that a master was last given. -/
def answered (m : Master) (i : Nat) (s : State) : Option Byte :=
  match s.bus.masters[m.idx] with
  | .answered (.data line) => some (byteAt line i)
  | _ => none

/-- R18, R174: an arm attempt over an empty image finds no size code; byte 252 of the setup area then reads 2. -/
theorem test_armResultRead :
    (match exec (.arm .formatter 0 0) State.reset with
      | .next t => (match exec (.busRead ⟨.fetcher, 7, 0xFFFFFFFF⟩) t with
        | .next v => answered .fetcher 28 v
        | _ => none)
      | _ => none) = some 2 := by decide +kernel

/-- The image that an ARM of the formatter over `captured` is validated on. -/
def armImage (s : State) : Vector Line 8 :=
  captureImage s.latch.image 7 (armRequest .formatter 0 0).enables (armRequest .formatter 0 0).data

theorem witness_ArmPasses :
    captured.settle.hears .formatter ∧ captured.settle.armed = false ∧ setupOf (armImage captured.settle) = exampleSetup ∧
    validate exampleSetup = .passed := by
  unfold State.hears; decide +kernel

/-- `captured` with O10 one count on, so that the last check fails (R18, check 14). -/
def lastCheckFails : State :=
  { State.reset with latch := { State.reset.latch with
      image := #v[imageLine 0, imageLine 1, mergeLine (imageLine 2) (0xA1#256 <<< 32) 0x10, 0, 0, 0, 0, 0] } }

theorem witness_ArmFails :
    (let checks := setupChecks (setupOf (armImage State.reset.settle))
     checks = [] ++ (false, .sizeCode) :: checks.tail) ∧
    (let checks := setupChecks (setupOf (armImage lastCheckFails.settle))
     checks = checks.take 13 ++ (false, .exitPath) :: [] ∧ ∀ b ∈ checks.take 13, b.1 = true) ∧
    lastCheckFails.settle.hears .formatter ∧ lastCheckFails.settle.armed = false := by
  unfold State.hears; decide +kernel

/-- A write to the last line of frame 0. -/
def frameBody (m : Master) : WriteReq := ⟨m, 557055, 0xF, 0⟩

theorem witness_GuardAborts :
    (ready.settle.hears .fetcher ∧ ready.settle.region (frameBody .fetcher).line = .frame 0) ∧
    ((posted .idle).settle.hears .formatter ∧ (posted .idle).settle.hasPlace (frameBody .formatter) ∧
      (posted .idle).settle.region (frameBody .formatter).line = .frame 0 ∧
      ((posted .idle).settle.frames.at 0).state = .bound) ∧
    ((posted .idle).settle.hasPlace ⟨.formatter, 2048, 0xF, 0⟩ ∧ (posted .idle).settle.region 2048 = .staging 0 ∧
      ((posted .idle).settle.orders.slot 0).pending = true ∧ isPost ⟨.formatter, 2048, 0xF, 0⟩ = false) := by
  unfold State.hears State.hasPlace; decide +kernel

theorem witness_BeyondMemory :
    ready.settle.hears .formatter ∧ ready.settle.armed = true ∧
    ready.settle.setup.memorySize ≤ lineAddress 2097152 ∧ ready.settle.region 2097151 ≠ .beyond ∧
    State.reset.settle.armed = false := by
  unfold State.hears; decide +kernel

theorem witness_PlainWriteQueued :
    (ready.settle.hears .formatter ∧ plain.master ≠ .fetcher ∧ plain.enables ≠ 0 ∧ ready.settle.region plain.line = .other) ∧
    ((queued 12 false).settle.bus.holdsLine 9011 = true ∧ (queued 12 false).settle.bus.queue.length < 13) ∧
    ((queued 15 true).settle.bus.holdsLine plain.line = false ∧ (queued 15 true).settle.hasPlace plain) ∧
    ((queued 16 true).settle.bus.holdsLine plain.line = false ∧ ¬ (queued 16 true).settle.hasPlace plain) := by
  unfold State.hears State.hasPlace; decide +kernel

/-- A write of masters 0 to 2 to other memory needs no verdict. -/
theorem plainWrite_other {u : State} {w : WriteReq}
    (h : w.master ≠ .fetcher ∧ w.enables ≠ 0 ∧ u.region w.line = .other) : u.plainWrite w :=
  ⟨h.1, h.2.1, .inl h.2.2⟩

theorem witness_plainWrite : (queued 16 true).settle.plainWrite plain ∧ ready.settle.plainWrite ⟨.formatter, 7, 1, 0⟩ := by
  have hs : ready.settle.region 7 = .setup 7 := by decide +kernel
  exact ⟨plainWrite_other (by decide +kernel), by decide, by decide, .inr ⟨by decide +kernel, 7, hs⟩⟩

/-- Writes to a staging slot and to a frame that find no place. -/
theorem witness_PlainWriteQueued_verdicts :
    (queued 16 true).settle.queueingWrite ⟨.formatter, 2048, 1, 0⟩ ∧
    (queued 16 true).settle.queueingWrite (frameBody .formatter) ∧
    (∀ w ∈ [⟨.formatter, 2048, 1, 0⟩, frameBody .formatter], (queued 16 true).settle.bus.holdsLine w.line = false ∧
      (queued 16 true).settle.bus.queue.length = 16) := by
  have h1 : (queued 16 true).settle.region 2048 = .staging 0 := by decide +kernel
  have h2 : (queued 16 true).settle.region (frameBody .formatter).line = .frame 0 := by decide +kernel
  exact ⟨⟨by decide, by decide, .inr (.inr (.inl ⟨0, h1⟩))⟩, ⟨by decide, by decide, .inr (.inr (.inr ⟨0, h2⟩))⟩,
    by decide +kernel⟩

/-- A place has become free for the waiting write. -/
def freed : State := { busy with bus := { busy.bus with queue := busy.bus.queue.tail } }

/-- A younger write of another master behind `plain`: to the line of an entry, or to the mirror. -/
def younger (line : LineNo) : WriteReq := ⟨.channelAdapter, line, 1, 0⟩

/-- A full queue with `plain` and a younger write waiting. -/
def behindPlain (line : LineNo) : State :=
  { queued 16 true with bus := { (queued 16 true).bus with waiting := [plain, younger line] } }

/-- The oldest with a place, a younger one whose line an entry holds, and a younger one that takes no entry. -/
theorem witness_WaitingWriteIsTaken :
    (freed.bus.waiting = [] ++ plain :: [] ∧ freed.bus.holdsLine plain.line = false ∧ freed.bus.queue.length < 16 ∧
      freed.plainWrite plain) ∧
    ((behindPlain 9003).bus.waiting = [plain] ++ younger 9003 :: [] ∧ plain.master ≠ (younger 9003).master ∧
      (behindPlain 9003).bus.holdsLine 9003 = true ∧ (behindPlain 9003).plainWrite (younger 9003) ∧
      (behindPlain 9003).bus.drain = true) ∧
    ((behindPlain 4096).queueing (younger 4096) = false ∧ (behindPlain 4096).bus.holdsLine 4096 = false) := by
  have oldest : freed.plainWrite plain := plainWrite_other (by decide +kernel)
  have merging : (behindPlain 9003).plainWrite (younger 9003) := plainWrite_other (by decide +kernel)
  simp only [oldest, merging, and_true, true_and]
  decide +kernel

theorem witness_ReadPasses :
    imaging.settle.hears .fetcher ∧ imaging.settle.passes ⟨.fetcher, 524288, 1⟩ true ∧
    imaging.settle.passes ⟨.formatter, 524288, 1⟩ false ∧ ready.settle.passes ⟨.fetcher, 2048, 1⟩ false ∧
    ready.settle.passes ⟨.formatter, 0, 1⟩ false := by
  refine ⟨by unfold State.hears; decide +kernel, ?_, ?_, ?_, ?_⟩
  · have h : imaging.settle.region 524288 = .frame 0 := by decide +kernel
    simp only [State.passes, h]; decide +kernel
  · have h : imaging.settle.region 524288 = .frame 0 := by decide +kernel
    simp only [State.passes, h]; decide +kernel
  · have h : ready.settle.region 2048 = .staging 0 := by decide +kernel
    simp only [State.passes, h]
  · have h : ready.settle.region 0 = .setup 0 := by decide +kernel
    simp only [State.passes, h]; decide +kernel

theorem witness_MirrorReadAnswered :
    ready.settle.hears .fetcher ∧ ready.settle.region 4096 = .mirror 0 ∧ ready.settle.region 4223 = .mirror 127 := by
  unfold State.hears; decide +kernel

/-- Every kind of entry that the views' clauses speak of: a jam record, an order at the pending head, the ring's events, a record of
the table, an open face, a reprint entry. -/
theorem witness_MirrorReadAnswered_views :
    (launched.jammedWith ⟨.late, some .exit, some 41, 9⟩).seqr.jam = some ⟨.late, some .exit, some 41, 9⟩ ∧
    (launched.jammedWith ⟨.late, some .exit, some 41, 9⟩).mirror.events[0]?.join =
      some ⟨.jam .late (some .exit) (some 41), 9⟩ ∧
    (launched.jammedWith ⟨.late, some .exit, some 41, 9⟩).reprint = [sheet] ∧
    (posted .idle).orders.queue = 0 :: [] ∧ launched.track.table[0]? = some (newRecord exampleSetup 1 2400 sheet) ∧
    (State.raise (.sheetDelivered 41 .b true) ready).mirror.events[0]?.join = some ⟨.sheetDelivered 41 .b true, 0⟩ ∧
    (State.raise (.memoryFault .formatter 3) ready).mirror.events[0]?.join = some ⟨.memoryFault .formatter 3, 0⟩ ∧
    (ready.jamHere .halt).seqr.jam = none ∧ ((inPath .running).jamHere .halt).mirror.events[0]?.join =
      some ⟨.jam .halt none none, 0⟩ ∧
    WindowInv imaging ∧ imaging.frames.window.map (·.frame) = [0] := by
  unfold WindowInv
  decide +kernel

/-- Every event can stand in the ring. -/
theorem witness_MirrorReadAnswered_events (e : Event) :
    (State.raise e ready).mirror.events[0]? = some (some ⟨e, ready.clock.pathCount⟩) := by
  rfl

/-- 11.4: the head's sequence, a tracking entry's exit slot and absent length, and the open-face count of frame 0. -/
theorem test_views :
    mirrorByte (posted .idle) 5 4 = 41 ∧ mirrorByte launched 32 18 = 6 ∧ mirrorByte launched 32 28 = 0xFF ∧
    mirrorByte imaging 48 3 = 0x05 := by decide +kernel

/-- 11.4: the bytes 0 to 3, the subject's first byte and the extra byte of a MISFEED and of a GUARD_ABORT for a slot. -/
theorem test_eventBytes :
    [0, 1, 2, 3, 4, 11].map (mirrorByte (State.raise (.misfeed 41 2 3) ready) 16) = [4, 0, 1, 2, 41, 3] ∧
    [0, 1, 2, 3, 4, 11].map (mirrorByte (State.raise (.guardAbort (.slot 31) .formatter) ready) 16) =
      [8, 2, 0, 2, 31, 0] := by decide +kernel

/-- A free port with these entries, these reads and drain mode. -/
def atPort (queue : List QueueEntry) (reads : List OutstandingRead) (drain : Bool) : State :=
  { ready with bus := { ready.bus with queue := queue, reads := reads, drain := drain } }

/-- One state for each item of R11. -/
theorem witness_PortIssuesInOrder :
    let e1 : QueueEntry := ⟨1, 0, 1, .formatter, false⟩
    let e2 : QueueEntry := ⟨2, 0, 1, .formatter, true⟩
    let r0 : OutstandingRead := ⟨.channelAdapter, 3, 1, false, false⟩
    let r3 : OutstandingRead := ⟨.fetcher, 4, 1, false, false⟩
    (atPort [e1, e2] [r3] false).settle.bus.choose = some (.write e2) ∧
    (atPort [e1] [r0, r3] true).settle.bus.choose = some (.read r3) ∧
    (atPort [e1] [r0] true).settle.bus.choose = some (.write e1) ∧
    (atPort [e1] [r0] false).settle.bus.choose = some (.read r0) ∧
    (atPort [e1] [] false).settle.bus.choose = some (.write e1) ∧
    (atPort [e1, e2] [r3] false).settle.bus.port = .idle := by decide +kernel

/-- A request of each kind in flight on the memory port. -/
def inFlight (p : MemoryPort) : State :=
  { ready with bus := { ready.bus with port := p, reads := [⟨.fetcher, 524288, 1, true, true⟩] } }

theorem witness_MemoryAnswersTaken :
    (inFlight (.read .fetcher)).settle.bus.port = .read .fetcher ∧
    (inFlight (.read .fetcher)).settle.bus.reads.find? (fun x => x.master == .fetcher) =
      some ⟨.fetcher, 524288, 1, true, true⟩ ∧
    (inFlight (.write ⟨1, 0, 1, .formatter, false⟩)).settle.bus.port = .write ⟨1, 0, 1, .formatter, false⟩ ∧
    (inFlight .stale).settle.bus.port = .stale := by decide +kernel

theorem witness_MemoryFaultReported :
    (inFlight (.write ⟨1, 0, 1, .formatter, false⟩)).settle.bus.port = .write ⟨1, 0, 1, .formatter, false⟩ := by
  decide +kernel

/-! ### Frames and orders -/

/-- A commit of frame 0 with this toggle. -/
def commitOf (t : Nat) : WriteReq := ⟨.formatter, 524288, 0xF0000000#32, lineOf (List.replicate 28 0 ++ [t, 0, 0x3C, 0x3C])⟩

theorem committed_settled : (committed .idle).settle = committed .idle :=
  State.settle_of_settled (by unfold Settled; decide +kernel)

theorem ready_settled : ready.settle = ready := State.settle_of_settled (by unfold Settled; decide +kernel)

theorem witness_CommitAndDemotion :
    ((committed .idle).settle.hears .formatter ∧ (committed .idle).settle.hasPlace (commitOf 0) ∧
      (committed .idle).settle.region (commitOf 0).line = .frame 0 ∧
      (committed .idle).settle.frames.at 0 = ⟨.ready, 0, 1, true⟩ ∧
      isCommit exampleSetup 0 (commitOf 0) = true ∧ commitToggle (commitOf 0) = false ∧
      commitToggle (commitOf 1) = true ∧ isCommit exampleSetup 0 (frameBody .formatter) = false) ∧
    FrameInv (committed .idle).settle ∧
    (ready.settle.frames.at 0 = ⟨.free, 0, 0, false⟩ ∧ FrameInv ready.settle) := by
  refine ⟨by unfold State.hears State.hasPlace; decide +kernel, ?_, by decide +kernel, ?_⟩
  · rw [committed_settled]
    exact withFrame0_inv ⟨.ready, 0, 1, true⟩ _ (by decide) rfl rfl (by decide +kernel) (by decide +kernel)
  · rw [ready_settled]
    exact frameInv_of _ ⟨.free, 0, 0, false⟩ (by decide) rfl
      (fun n => by split <;> simp_all [ready_at]) (by decide +kernel) (by decide +kernel)

theorem witness_FetchBlanked :
    ready.settle.hears .fetcher ∧ ready.settle.region 524288 = .frame 0 ∧ ready.settle.frames.inWindow 0 = false := by
  unfold State.hears; decide +kernel

theorem witness_ReleaseLowersCount :
    (posted .idle).frames.at 0 = ⟨.bound, 1, 1, true⟩ ∧
    (withFrame0 ⟨.bound, 2, 1, true⟩ ready).frames.at 0 = ⟨.bound, 2, 1, true⟩ := by decide +kernel

/-- A control word is taken in every path state of an armed part. -/
theorem witness_takesRequest :
    ∀ p ∈ ([.idle, .standby, .starting, .draining, .jammed] : List PathState),
      (inPath p).settle.takesRequest .formatter 1 ∧ (inPath p).settle.seqr.path = p := by
  unfold State.takesRequest State.mirrorHears State.hears; decide +kernel

/-- In RUNNING, with nothing to do and the idle limit not reached. -/
theorem witness_takesRequest_running :
    (inPath .running).settle.takesRequest .formatter 1 ∧ (inPath .running).settle.seqr.path = .running ∧
    (posted .running).settle.takesRequest .formatter 1 ∧ (posted .running).settle.orders.queue = [0] := by
  unfold State.takesRequest State.mirrorHears State.hears; decide +kernel

theorem witness_ReleaseFrameRequest :
    ready.settle.takesRequest .formatter 1 ∧ ready.settle.setup.frameCount ≤ (48 : Byte).toNat ∧
    (47 : Byte).toNat < ready.settle.setup.frameCount ∧ (ready.settle.frames.at 47).state = .free ∧
    ((posted .idle).settle.frames.at 0).state = .bound ∧ ((committed .idle).settle.frames.at 0).state = .ready ∧
    ready.settle.setup.frameCount ≤ 64 := by
  unfold State.takesRequest State.mirrorHears State.hears; decide +kernel

theorem witness_PostAccepted :
    ∀ p ∈ ([.running, .standby] : List PathState),
      (committed p).settle.hears .controlProcessor ∧ (committed p).settle.hasPlace (postWrite orderLine) ∧
      (committed p).settle.region (postWrite orderLine).line = .staging 0 ∧
      ((committed p).settle.orders.slot 0).pending = false ∧ isPost (postWrite orderLine) = true ∧
      postCheck (committed p).settle (mergeLine ((committed p).settle.orders.slot 0).latched orderLine 0xFFFFFFFF) = none ∧
      (committed p).settle.seqr.path = p := by
  unfold State.hears State.hasPlace; decide +kernel

/-- `orderLine` with one byte changed. -/
def changed (i v : Nat) : Line := mergeLine orderLine (packBytes fun _ => BitVec.ofNat 8 v) (1#32 <<< i)

/-- Each reason is reached: a wrong sequence, an index 2 after a closed set, a length below 512, a wrong generation, and a
count at 255; and a post to a PENDING slot. -/
theorem witness_PostRefused :
    postCheck (committed .idle).settle (changed 0 42) = some .sequenceGap ∧
    postCheck { committed .idle with orders := { ready.orders with posted := ⟨false, 0, 0, .a, true⟩ } }
      (changed 7 2) = some .setBreak ∧
    postCheck (committed .idle).settle (changed 13 0) = some .form ∧
    postCheck (committed .idle).settle (changed 15 2) = some .frameStale ∧
    postCheck (withFrame0 ⟨.bound, 255, 1, true⟩ ready).settle orderLine = some .frameFull ∧
    isPost (postWrite (changed 0 42)) = true ∧ ((posted .idle).settle.orders.slot 0).pending = true ∧
    (posted .idle).settle.hasPlace (postWrite orderLine) ∧ (posted .idle).settle.hears .controlProcessor ∧
    ((committed .idle).settle.orders.slot 0).pending = false ∧ (committed .idle).settle.region 2048 = .staging 0 ∧
    isPost ⟨.formatter, 2048, 0xF, 0⟩ = false ∧ (committed .idle).settle.hasPlace ⟨.formatter, 2048, 0xF, 0⟩ ∧
    (committed .idle).settle.hears .formatter := by
  unfold State.hears State.hasPlace; decide +kernel

theorem posted_settled : (posted .idle).settle = posted .idle :=
  State.settle_of_settled (by unfold Settled; decide +kernel)

theorem witness_CancelPendingTakesBack :
    (posted .idle).settle.takesRequest .formatter 1 ∧ (posted .idle).settle.seqr.path = .idle ∧
    (posted .idle).settle.orders.queue = [0] ∧ FrameInv (posted .idle).settle ∧ PendingInv (posted .idle).settle ∧
    ready.settle.orders.queue = [] := by
  refine ⟨by unfold State.takesRequest State.mirrorHears State.hears; decide +kernel, by decide +kernel,
    by decide +kernel, ?_, ?_, by decide +kernel⟩
  · rw [posted_settled]; exact posted_frames
  · rw [posted_settled]; exact posted_pending .idle

/-! ### The clock and the path states -/

theorem witness_EncPulseCounts :
    State.reset.settle.armed = false ∧ (inPeriod []).settle.inReset = true ∧ ready.settle.inReset = false ∧
    ready.settle.armed = true ∧ ready.settle.driven = false ∧ (inPath .running).settle.driven = true ∧
    (inPath .running).settle.clock.pitchRem + 1 < (inPath .running).settle.setup.pitch := by decide +kernel

/-- The filter table of R74 at F = 3 and F = 1, at both ends of its ranges. -/
theorem witness_FilterSampleTable :
    Filter.sample 3 9 true ⟨true, some ⟨1, 5⟩⟩ = (⟨true, none⟩, none) ∧
    Filter.sample 1 9 true ⟨false, none⟩ = (⟨true, none⟩, some 9) ∧
    Filter.sample 3 9 true ⟨false, none⟩ = (⟨false, some ⟨1, 9⟩⟩, none) ∧
    Filter.sample 3 9 true ⟨false, some ⟨1, 5⟩⟩ = (⟨false, some ⟨2, 5⟩⟩, none) ∧
    Filter.sample 3 9 true ⟨false, some ⟨2, 5⟩⟩ = (⟨true, none⟩, some 5) := by decide

theorem witness_TickSamples :
    State.reset.settle.armed = false ∧ ready.settle.inReset = false ∧ ready.settle.armed = true ∧
    ready.settle.driven = false ∧ (inPath .running).settle.driven = true ∧ launched.settle.driven = true := by decide +kernel

theorem witness_RunStarts : ready.settle.takesRequest .formatter 1 ∧ ready.settle.seqr.path = .idle ∧
    ready.settle.pins.coverClosed = true := by
  unfold State.takesRequest State.mirrorHears State.hears; decide +kernel

theorem witness_DrainEmpties : launched.settle.takesRequest .formatter 1 ∧ launched.settle.seqr.path = .running ∧
    launched.settle.track.table ≠ [] := by
  unfold State.takesRequest State.mirrorHears State.hears; decide +kernel

/-- `inPath` with the tick counters at the values given. -/
def counting (p : PathState) (start stall idle : Nat) : State :=
  { inPath p with seqr := { (inPath p).seqr with startCtr := start, stallCtr := stall, idleCtr := idle } }

theorem witness_StandbyEntered :
    (counting .running 0 0 50000).seqr.path = .running ∧ (counting .running 0 0 50000).nothingToDo = true ∧
    (counting .running 0 0 50000).setup.idleLimit ≠ 0 ∧
    (counting .running 0 0 50000).setup.idleLimit ≤ (counting .running 0 0 50000).seqr.idleCtr := by decide +kernel

/-- JAMMED with paper at the given sensors. -/
def paperAt (levels : Vector Bool 6) : State :=
  { inPath .jammed with clock := { ready.clock with filters := levels.map fun b => ⟨b, none⟩ } }

theorem witness_ResumeRecovers :
    (paperAt #v[false, false, false, false, false, true]).settle.takesRequest .formatter 1 ∧
    (paperAt #v[false, false, false, false, false, true]).settle.clock.filters[Sensor.exit.idx].level = true ∧
    (∀ i : Fin 6, i < Sensor.exit.idx →
      (paperAt #v[false, false, false, false, false, true]).settle.clock.filters[i].level = false) ∧
    (∀ i : Fin 6, (inPath .jammed).settle.clock.filters[i].level = false) ∧
    (inPath .jammed).settle.seqr.path = .jammed := by
  unfold State.takesRequest State.mirrorHears State.hears; decide +kernel

theorem witness_PathJams :
    launched.settle.takesRequest .formatter 1 ∧ launched.settle.driven = true ∧
    (counting .starting 3000 0 0).setup.startLimit ≤ (counting .starting 3000 0 0).seqr.startCtr ∧
    (counting .draining 0 200 0).driven = true ∧
    (counting .draining 0 200 0).setup.stallLimit ≤ (counting .draining 0 200 0).seqr.stallCtr ∧
    launched.settle.inReset = false ∧ ready.settle.driven = false := by
  unfold State.takesRequest State.mirrorHears State.hears; decide +kernel

theorem witness_PathResetClears :
    (posted .idle).settle.takesRequest .formatter 1 ∧ (posted .idle).settle.driven = false ∧
    launched.settle.takesRequest .formatter 1 ∧ launched.settle.driven = true ∧
    (∀ n, (ready.settle.frames.at n).state ≠ .bound) := by
  refine ⟨by unfold State.takesRequest State.mirrorHears State.hears; decide +kernel, by decide +kernel,
    by unfold State.takesRequest State.mirrorHears State.hears; decide +kernel, by decide +kernel, fun n => ?_⟩
  rw [ready_settled, ready_at]; split <;> simp [FrameRecord.absent]

/-- A pitch tick waits in this path state. -/
def ticking (p : PathState) (number : PitchNo) (lastExit : Option PitchNo) (s : State) : State :=
  { s with
    seqr := { s.seqr with path := p }
    clock := { s.clock with tick := some ⟨number, 2400, p == .running⟩ }
    launch := { s.launch with lastExit := lastExit, lastDest := lastExit.map fun _ => .b } }

theorem witness_RunningEntered :
    (ticking .draining 70 (some 6) launched).clock.tick = some ⟨70, 2400, false⟩ ∧
    (ticking .draining 70 (some 6) launched).launch.lastExit = some 6 ∧
    (ticking .starting 1 none ready).clock.tick = some ⟨1, 2400, false⟩ ∧
    (ticking .running 1 none ready).clock.tick = some ⟨1, 2400, true⟩ ∧ (ticking .running 1 none ready).reprint = [] ∧
    (ticking .running 1 none ready).orders.queue = [] ∧
    ((ticking .running 1 (some 5) (posted .running)).launch.lastDest ≠ some .a ∧
      isAtOrAfter (6 : PitchNo) (5 + BitVec.ofNat 16 (1 + exampleSetup.gateTravel)) = false) ∧
    ready.settle.inReset = false := by decide +kernel

/-- The order is launched from the pending queue at the first exit slot that a change of stack allows, G + 1 = 2 on. -/
theorem witness_PitchTickLaunches :
    let s := ticking .running 1 (some 4) (posted .running)
    s.clock.tick = some ⟨1, 2400, true⟩ ∧ s.seqr.path = .running ∧ s.launch.lastExit ≠ some ((1 : PitchNo) - 64) ∧
    s.reprint = [] ∧ s.orders.queue = [0] ∧ (∀ y ∈ s.track.table, y.phase ≠ .decided .purge) ∧
    s.setup.exitSlot 1 (orderOfLine orderLine).sides = 6 ∧ s.track.table.length < 16 ∧ s.pins.trayEmpty[(0 : Tray)] = false ∧
    s.launch.stalled[(0 : Tray)] = false ∧ s.pins.stackFull .a = false ∧ s.launch.slotFree (s.setup.frontSlot 1) = true ∧
    s.setup.backSlot 1 (orderOfLine orderLine).sides = none ∧ isAfter (6 : PitchNo) 4 = true ∧
    isAtOrAfter (6 : PitchNo) (4 + BitVec.ofNat 16 (1 + s.setup.gateTravel)) = true := by decide +kernel

/-- One exit slot earlier the change of stack does not allow the launch. -/
theorem test_stack_change_waits :
    launchTest 1 (orderOfLine orderLine) (ticking .running 1 (some 5) (posted .running)) = false := by decide +kernel

/-- The FEED deadline 3,301 of `launched` is due. -/
def late (count : Nat) : State := { launched with clock := { launched.clock with pathCount := BitVec.ofNat 24 count } }

theorem witness_MisfeedReprints :
    (late 3301).driven = true ∧
    (late 3301).track.deadlines.find? (fun y => y.owner == 41 && (y.kind == .windowClose && y.sensor == .feed) &&
      (late 3301).expires y) = some ⟨3301, .windowClose, .feed, 41⟩ ∧
    (late 3301).track.find 41 = some (newRecord exampleSetup 1 2400 sheet) ∧ (late 3301).seqr.path ≠ .draining ∧
    (late 3300).track.deadlines.any (late 3300).expires = false := by decide +kernel

/-- R119: with one pick retry the first misfeed is retried, and one more stalls the tray. -/
theorem test_misfeed_retries :
    (match exec (.misfeed 41) (late 3301) with
      | .next t => decide (t.reprint.map OrderCopy.misfeeds = [1] ∧ t.launch.stalled[0] = false ∧ t.track.table = [])
      | _ => false) = true ∧
    (match exec (.misfeed 41)
        { late 3301 with track := { (late 3301).track with
          table := (late 3301).track.table.map fun r => { r with copy := { r.copy with misfeeds := 1 } } } } with
      | .next t => decide (t.reprint.map OrderCopy.misfeeds = [1] ∧ t.launch.stalled[0] = true)
      | _ => false) = true := by decide +kernel

theorem witness_TrayStallCleared :
    ready.settle.takesRequest .formatter 1 ∧ (3 : Byte).toNat = (3 : Tray).val ∧ 4 ≤ (4 : Byte).toNat := by
  unfold State.takesRequest State.mirrorHears State.hears; decide +kernel

/-! ### Tracking -/

/-- The FEED edge of `launched` at the first and the last count of its window. -/
theorem witness_LeadingEdgeMatches :
    ∀ c ∈ ([2700, 3300] : List Nat),
      let s := withEdge c ⟨.feed, true, BitVec.ofNat 24 c⟩
      s.edgeNow .feed true = some ⟨.feed, true, BitVec.ofNat 24 c⟩ ∧ s.driven = true ∧
      s.track.queueAt .feed = [⟨41, 3000⟩] ∧
      s.setup.classify (BitVec.ofNat 24 c) (s.setup.windowOpen 3000) = .within ∧
      s.track.find 41 = some (newRecord exampleSetup 1 2400 sheet) ∧ visitAfter .simplex 1 = some 2 ∧
      visitAfter .simplex 5 = none := by decide +kernel

/-- The EXIT edge, after which no visit is awaited. -/
theorem witness_LeadingEdgeMatches_exit :
    let s := awaiting .exit 5 14500 14500 14500
    s.edgeNow .exit true = some ⟨.exit, true, 14500⟩ ∧ s.track.queueAt .exit = [⟨41, 14500⟩] ∧
    s.setup.classify 14500 (s.setup.windowOpen 14500) = .within ∧
    (s.track.find 41).map (fun r => (r.nextVisit, visitAfter r.copy.order.sides 5)) = some (some 5, none) := by
  decide +kernel

/-- A REG edge that opens the front face, with none and with two faces open, and with the sheet still over FEED. -/
theorem witness_LeadingEdgeMatches_reg :
    let s := awaiting .reg 2 5400 5400 5400
    let two := { s with frames := imaging.frames }
    let still := { s with track := s.track.putOccupant .feed (some ⟨41, 1, 3000, 2400, 2160⟩) }
    s.edgeNow .reg true = some ⟨.reg, true, 5400⟩ ∧ s.track.queueAt .reg = [⟨41, 5400⟩] ∧ s.driven = true ∧
    s.setup.classify 5400 (s.setup.windowOpen 5400) = .within ∧
    (s.track.find 41).map (fun r => (r.nextVisit, r.phase, r.launchCount)) = some (some 2, .inPath, 2400) ∧
    (s.track.find 41).map (fun r => r.copy.order.front) = some (some ⟨0, 1⟩) ∧
    (visitAfter .simplex 2).bind (routeVisit .simplex) = some (.xfer, 3) ∧
    s.frames.openFaces < 2 ∧ 2 ≤ two.frames.openFaces ∧ still.edgeNow .reg true = s.edgeNow .reg true ∧
    still.track.occupant .feed = some ⟨41, 1, 3000, 2400, 2160⟩ := by decide +kernel

/-- A spoiled duplex sheet at its final FUSE edge, behind another decided sheet. -/
def spoiledDuplex : State :=
  let s := awaiting .fuse 8 27700 27700 27700
  let o : Order := { orderOfLine orderLine with sides := .duplex }
  { s with track :=
      { s.track with
        gateQueue := [40]
        table := s.track.table.map fun r => { r with spoiled := some .fetch, copy := ⟨o, 0⟩ } } }

theorem witness_GateDecisionTaken_purge :
    spoiledDuplex.edgeNow .fuse true = some ⟨.fuse, true, 27700⟩ ∧
    spoiledDuplex.track.queueAt .fuse = [⟨41, 27700⟩] ∧
    exampleSetup.classify 27700 (exampleSetup.windowOpen 27700) = .within ∧ spoiledDuplex.track.gateQueue ≠ [] ∧
    (spoiledDuplex.track.find 41).map (fun r => (r.copy.order.sides, r.nextVisit, r.spoiled)) =
      some (.duplex, some 8, some .fetch) := by decide +kernel

theorem witness_GateDecisionTaken :
    let s := awaiting .fuse 4 10200 10200 10190
    s.edgeNow .fuse true = some ⟨.fuse, true, 10190⟩ ∧ s.driven = true ∧ s.track.queueAt .fuse = [⟨41, 10200⟩] ∧
    s.setup.classify 10190 (s.setup.windowOpen 10200) = .within ∧
    (s.track.find 41).map (fun r => (r.copy.order.sides, r.nextVisit, r.spoiled)) = some (.simplex, some 4, none) ∧
    s.track.dGate = 41 ∧ s.track.gateQueue = [] := by decide +kernel

/-- R139: the decision at the final FUSE edge. -/
theorem test_gate_decision :
    (match exec (.leadingEdge .fuse) (awaiting .fuse 4 10200 10200 10190) with
      | .next t => decide (t.track.decisionOf 41 = some (.good .a) ∧ t.track.dGate = 42 ∧ t.track.queueAt .exit = [⟨41, 14500⟩])
      | _ => false) = true := by decide +kernel

theorem witness_TrackingJams :
    (withEdge 2699 ⟨.reg, true, 2699⟩).edgeNow .reg true = some ⟨.reg, true, 2699⟩ ∧
    (withEdge 2699 ⟨.reg, true, 2699⟩).track.queueAt .reg = [] ∧
    (withEdge 2699 ⟨.feed, true, 2699⟩).edgeNow .feed true = some ⟨.feed, true, 2699⟩ ∧
    exampleSetup.classify 2699 (exampleSetup.windowOpen 3000) = .before ∧
    (withEdge 2699 ⟨.reg, false, 2699⟩).edgeNow .reg false = some ⟨.reg, false, 2699⟩ ∧
    (withEdge 2699 ⟨.reg, false, 2699⟩).track.occupant .reg = none ∧
    (let s := { awaiting .reg 2 5400 5701 5701 with clock := (late 5701).clock }
     s.track.deadlines.find? (fun y => y.owner == 41 && (y.kind == .windowClose && y.sensor != .feed) && s.expires y) =
       some ⟨5701, .windowClose, .reg, 41⟩) ∧
    (let s := { leaving .reg 2 .inPath 5400 8760 with clock := (late 8760).clock }
     s.track.deadlines.find? (fun y => y.owner == 41 && y.kind == .stuck && s.expires y) =
       some ⟨8760, .stuck, .reg, 41⟩) ∧ launched.driven = true := by decide +kernel

/-- A sheet leaves FEED one count beyond the tolerance of 40, and XFER. -/
theorem witness_TrailingEdgeActs :
    ∀ sn ∈ ([.feed, .xfer] : List Sensor),
      (leaving sn 1 .inPath 3000 5201).edgeNow sn false = some ⟨sn, false, 5201⟩ ∧
      (leaving sn 1 .inPath 3000 5201).driven = true ∧
      (leaving sn 1 .inPath 3000 5201).track.occupant sn = some ⟨41, 1, 3000, 2400, 2160⟩ ∧
      ((leaving sn 1 .inPath 3000 5201).track.find 41).map Record.launchCount = some 2400 := by decide +kernel

/-- The same sheet over REG too, matched before or after, and the same sequence in the table from another launch. -/
theorem witness_TrailingEdgeActs_more :
    let s := leaving .feed 1 .inPath 3000 5201
    let o : Occupancy := ⟨41, 1, 3000, 2400, 2160⟩
    (o.before ⟨41, 2, 5150, 2400, 2160⟩ ∧ (⟨41, 2, 2999, 2400, 2160⟩ : Occupancy).before o) ∧
    (Tracking.find { s.track with table := s.track.table.map fun r => { r with launchCount := 4800 } } 41).map
      (fun r => decide (r.launchCount = o.launch)) = some false := by
  unfold Occupancy.before; decide +kernel

/-- R85: 2,201 counts against 2,160 with tolerance 40 spoil LENGTH; 2,200 do not. -/
theorem test_length_tolerance :
    ∀ c ∈ ([(5200, none), (5201, some .length)] : List (Nat × Option SpoilReason)),
      (match exec (.trailingEdge .feed) (leaving .feed 1 .inPath 3000 c.1) with
        | .next t => decide ((t.track.find 41).map Record.spoiled = some c.2)
        | _ => false) = true := by decide +kernel

theorem witness_ExitEdgeDelivers :
    ∀ ph ∈ ([.decided (.good .a), .decided .purge] : List Phase),
      (leaving .exit 5 ph 14500 16660).edgeNow .exit false = some ⟨.exit, false, 16660⟩ ∧
      (leaving .exit 5 ph 14500 16660).seqr.path = .running ∧
      (leaving .exit 5 ph 14500 16660).track.occupant .exit = some ⟨41, 5, 14500, 2400, 2160⟩ ∧
      ((leaving .exit 5 ph 14500 16660).track.find 41).map (fun r => (r.launchCount, r.phase)) = some (2400, ph) ∧
      (leaving .exit 5 ph 14500 16660).track.gateQueue.filter (fun y => y != 41) = [] := by decide +kernel

/-- Another record behind the head: its decision gives the lines. -/
theorem witness_ExitEdgeDelivers_head :
    let s := leaving .exit 5 (.decided (.good .a)) 14500 16660
    let t : Tracking := { s.track with
      gateQueue := [41, 42]
      table := s.track.table ++ [{ newRecord exampleSetup 2 4800 ⟨{ orderOfLine orderLine with seq := 42 }, 0⟩ with
        phase := .decided .purge }] }
    t.gateQueue.head? = some 41 ∧ t.gateQueue.filter (fun y => y != 41) = 42 :: [] ∧
    gateLevels (t.decisionOf 42) t.purgeGate t.jogB = (true, false) := by decide +kernel

/-- R143: SHEET_DELIVERED carries the trailing stamp, then FRAME_RELEASED follows; R136: a face of the sheet still open is closed
as the record leaves, one of another sheet stays. -/
theorem test_delivery :
    (match exec (.trailingEdge .exit)
        { leaving .exit 5 (.decided (.good .a)) 14500 16660 with frames := imaging.frames } with
      | .next t => decide (t.mirror.events[0] = some ⟨.sheetDelivered 41 .a true, 16660⟩ ∧
          t.mirror.events[1] = some ⟨.frameReleased 0 1, 16660⟩ ∧ t.track.dDel = 42 ∧ t.latch.recordSeq = 41 ∧
          t.frames.window = [⟨0, [⟨40, .front⟩]⟩])
      | _ => false) = true := by decide +kernel

theorem witness_SpoilingMarks :
    ((leaving .exit 5 (.decided (.good .a)) 14500 16660).track.find 41).map (fun r => (r.spoiled, r.phase)) =
      some (none, .decided (.good .a)) ∧
    (leaving .exit 5 (.decided (.good .a)) 14500 16660).track.gateQueue = [] ++ 41 :: [] ∧
    (launched.track.find 41).map (fun r => (r.spoiled, r.phase)) = some (none, .feeding) ∧
    (((launched.track.spoil 41 .fetch).find 41).map Record.spoiled = some (some .fetch)) := by decide +kernel

/-! ### The mirror -/

theorem witness_StandingCleared :
    ready.settle.takesRequest .formatter 1 ∧ ready.settle.mirrorHears .formatter := by
  unfold State.takesRequest State.mirrorHears State.hears; decide +kernel

theorem events_settled : (withEvents 31 32 ready).settle = withEvents 31 32 ready :=
  State.settle_of_settled (by unfold Settled; decide +kernel)

/-- The ring full with its head at the last position; 0, some and all of the records are taken. -/
theorem witness_EventsTakenRemoved :
    (withEvents 31 32 ready).settle.mirrorHears .formatter ∧ EventRingInv (withEvents 31 32 ready).settle ∧
    (0 : Nat) = min (0 : Byte).toNat 32 ∧ 5 = min (5 : Byte).toNat 32 ∧ 32 = min (255 : Byte).toNat 32 := by
  refine ⟨by unfold State.mirrorHears State.hears; decide +kernel, ?_, by decide, by decide, by decide⟩
  rw [events_settled]; unfold EventRingInv; decide +kernel

theorem witness_EventQueuedAndAttention :
    (EventRingInv (withEvents 31 31 ready) ∧ (withEvents 31 31 ready).mirror.count < 32 ∧
      (withEvents 31 31 ready).inReset = false ∧ (withEvents 31 31 ready).armed = true) ∧
    (EventRingInv (withEvents 31 32 ready) ∧ (withEvents 31 32 ready).mirror.count = 32) ∧
    (EventRingInv State.reset ∧ State.reset.armed = false) := by
  unfold EventRingInv; decide +kernel

/-- A powered, armed part with a FEEDING record: RUN_TRANSPORT and the PICK of its tray are high. -/
theorem witness_EventQueuedAndAttention_lines :
    EventRingInv launched ∧ PathInv launched ∧ launched.pins.powerGood = true ∧ launched.inReset = false ∧
    launched.armed = true ∧ launched.outputs.runTransport = true ∧
    launched.outputs.pick[sheet.order.tray] = true := by
  unfold EventRingInv PathInv; decide +kernel

theorem witness_ControlWordNotTaken :
    ready.settle.mirrorHears .formatter ∧ (2 : Byte).getLsbD 0 = ready.settle.mirror.lastToggle ∧
    (1 : Byte).getLsbD 0 ≠ ready.settle.mirror.lastToggle ∧ unknownCode 0 = true ∧ unknownCode 11 = true ∧
    unknownCode 255 = true ∧ coversRequestWord (8 : Fin 128).val 0x7 = false ∧
    coversRequestWord (127 : Fin 128).val 0xF = false := by
  unfold State.mirrorHears State.hears; decide +kernel

theorem witness_RequestWordsAreBusWrites :
    ready.settle.inReset = false ∧ ready.settle.armed = true ∧ enablesWord (0xF : Enables) 0 = true ∧
    ready.settle.region 4104 = .mirror 8 ∧ ready.settle.region 4105 = .mirror 9 ∧ ready.settle.region 4106 = .mirror 10 := by
  decide +kernel

end Sys2Proof.Machine.Tests
end

/-! # Proofs: the bus passage -/

namespace Sys2Proof.Machine

/-! ## The memory controller's error answer to a write (R14) -/

/-- The command first completes what has occurred (log 1), then takes the error. -/
theorem exec_memoryFault (s : State) : exec .memoryFault s = .next (takeWriteError s.settle) := rfl

/-- With a write in flight only the port and the mirror change, so a second attempt is nowhere queued and nothing that the write's
acceptance did is taken back. -/
theorem takeWriteError_of_write {u : State} {e : QueueEntry} (hport : u.bus.port = .write e) :
    takeWriteError u =
      { u with
        bus := { u.bus with port := .idle }
        mirror := ({ u.mirror with memoryFault := true }).push ⟨.memoryFault e.master e.line, u.clock.pathCount⟩ } := by
  unfold takeWriteError
  rw [hport]
  rfl

/-- Settles O28: the command is the error answer taken in the settled state, and that state has the write in flight. -/
theorem memoryFaultReported : Obligations.MemoryFaultReported := by
  intro s u e hsettle hport
  rw [exec_memoryFault, hsettle, takeWriteError_of_write hport]

end Sys2Proof.Machine

/-! # Proofs: page frames -/

namespace Sys2Proof.Machine

/-! ## The fetcher's reads outside the imaging window list (R43, R44) -/

/-- A read of a master that is heard is taken in the settled state (R1, R24). -/
theorem exec_busRead_of_hears {s : State} {r : ReadReq} (hhears : s.settle.hears r.master) :
    exec (.busRead r) s = .next (presentRead r s.settle) := by
  obtain ⟨hfree, hperiod⟩ := hhears
  change busRequest r.master (.read r) (presentRead r) s = _
  simp [busRequest, hfree, hperiod]

/-- The fetcher is the one master whose frame reads the window list decides (R43, R44). -/
theorem presentRead_of_outsideWindow {u : State} {r : ReadReq} {n : Nat} (hmaster : r.master = .fetcher)
    (henables : r.enables ≠ 0) (hregion : u.region r.line = .frame n) (hout : u.frames.inWindow n = false) :
    presentRead r u = blankRead r n u := by
  simp only [presentRead, if_neg henables, hregion, if_pos hmaster, hout, Bool.false_eq_true, if_false]

/-- What a blanked read changes: the master's answer, the spoiled sheets, and the report in the mirror. -/
theorem blankRead_eq (r : ReadReq) (n : Nat) (u : State) :
    blankRead r n u =
      { u with
        bus := u.bus.setPort r.master (.answered (.data (packBytes fun _ => u.setup.blankByte)))
        track := u.frames.openSheets.foldl (fun t q => t.spoil q .fetch) u.track
        mirror := ({ u.mirror with fetchFault := true }).push ⟨.fetchBlanked n, u.clock.pathCount⟩ } := rfl

/-- Settles O30: the read comes before the passage, the window list sends it to the blanking, and the answer is packed of
blank bytes. -/
theorem fetchBlanked : Obligations.FetchBlanked := by
  intro s u r n hsettle hhears hmaster henables hregion hout
  subst hsettle
  refine ⟨packBytes fun _ => s.settle.setup.blankByte, ?_, fun i hi => byteAt_packBytes _ i hi⟩
  rw [exec_busRead_of_hears hhears, presentRead_of_outsideWindow hmaster henables hregion hout, blankRead_eq, hmaster]

/-! ## RELEASE_FRAME (R39) -/

/-- What freeing a frame sets: its record's state, the free-frame count one up, and the pace state evaluated on the new count
(R34, R39, R47, R48). The window list stays. -/
theorem Frames.freeUp_spec (p : Setup) (f : Frames) {n : Nat} (hn : n < 64) :
    (∀ j, (f.freeUp p n).at j = if j = n then { f.at n with state := .free } else f.at j) ∧
    (f.freeUp p n).free = f.free + 1 ∧ (f.freeUp p n).window = f.window ∧
    (f.freeUp p n).hold = if (f.freeUp p n).free ≤ p.paceLow then true
      else if p.paceHigh ≤ (f.freeUp p n).free then false else f.hold :=
  ⟨fun j => Frames.at_put f n _ hn j, rfl, rfl, rfl⟩

/-- A number at or above the frame count is refused. -/
theorem requestReleaseFrame_of_beyondCount {t : State} {a : Byte} (h : t.setup.frameCount ≤ a.toNat) :
    requestReleaseFrame a t = t.reported (.requestRefused 9 t.seqr.path) := by
  simp only [requestReleaseFrame, if_pos h]
  rfl

/-- Below the frame count the frame's state decides (R39). -/
theorem requestReleaseFrame_of_state {t : State} {a : Byte} (h : a.toNat < t.setup.frameCount) :
    ((t.frames.at a.toNat).state = .free → requestReleaseFrame a t = t) ∧
    ((t.frames.at a.toNat).state = .bound →
      requestReleaseFrame a t = t.reported (.requestRefused 9 t.seqr.path)) ∧
    ((t.frames.at a.toNat).state = .ready →
      requestReleaseFrame a t = { t with frames := t.frames.freeUp t.setup a.toNat }) := by
  have hcount : ¬ t.setup.frameCount ≤ a.toNat := Nat.not_le.mpr h
  refine ⟨fun hfree => ?_, fun hbound => ?_, fun hready => ?_⟩
  · simp only [requestReleaseFrame, if_neg hcount, hfree]
  · simp only [requestReleaseFrame, if_neg hcount, hbound]
    rfl
  · simp only [requestReleaseFrame, if_neg hcount, hready]
    rfl

/-- The request neither reads nor changes the bus, so the answer may come before it. -/
theorem requestReleaseFrame_answer (a : Byte) (m : Master) (c : Answer) (t : State) :
    (requestReleaseFrame a t).answer m c = requestReleaseFrame a (t.answer m c) := by
  by_cases hcount : t.setup.frameCount ≤ a.toNat
  · have hcount' : (t.answer m c).setup.frameCount ≤ a.toNat := hcount
    rw [requestReleaseFrame_of_beyondCount hcount, requestReleaseFrame_of_beyondCount hcount']
    rfl
  · have hcount' : ¬ (t.answer m c).setup.frameCount ≤ a.toNat := hcount
    simp only [requestReleaseFrame, if_neg hcount, if_neg hcount', State.answer_frames]
    cases (t.frames.at a.toNat).state <;> rfl

/-- A RELEASE_FRAME that is taken acts on the state that every control word leaves (R166, R167), in any path state. -/
theorem exec_releaseFrame_taken {s : State} {m : Master} {a b x : Byte} (h : s.settle.takesRequest m b) :
    exec (.releaseFrame m a b x) s = .next (requestReleaseFrame a (s.settle.requestTaken m 9 a b x)) := by
  obtain ⟨hhears, htoggle⟩ := h
  change mirrorCommand m (controlWord 9 a b x) s = _
  rw [mirrorCommand_taken hhears, controlWord_taken htoggle]
  exact congrArg _ (requestReleaseFrame_answer a m .completion _)

/-- Settles O32: taking the control word leaves the frames and the setup as they were, so the cases of the request are those of
the frame's record in the state that the command meets. -/
theorem releaseFrameRequest : Obligations.ReleaseFrameRequest := by
  intro s u m a b x v r hsettle htakes htaken hrecord hframes
  subst hsettle htaken hrecord
  rw [exec_releaseFrame_taken htakes]
  refine ⟨fun hbeyond => ?_, fun hbelow => ?_⟩
  · exact congrArg _ (requestReleaseFrame_of_beyondCount (t := s.settle.requestTaken m 9 a b x) hbeyond)
  · obtain ⟨hfree, hbound, hready⟩ := requestReleaseFrame_of_state (t := s.settle.requestTaken m 9 a b x) hbelow
    refine ⟨fun h => congrArg _ (hfree h), fun h => congrArg _ (hbound h), fun h => ?_⟩
    exact ⟨_, congrArg _ (hready h), Frames.freeUp_spec s.settle.setup s.settle.frames (by omega)⟩

end Sys2Proof.Machine

/-! # Proofs: the status mirror and its events -/

namespace Sys2Proof.Machine

/-! ## The events-taken word (R170) -/

/-- What the freeing of `k` positions from the head on leaves at each position of the ring: those `k` are empty, the others stay. -/
theorem getElem?_freePositions (ev : Vector (Option EventRecord) 32) (head k : Nat) (hk : k ≤ 32) {i : Nat} (hi : i < 32) :
    ((List.range k).foldl (fun ev i => ev.setIfInBounds ((head + i) % 32) none) ev)[(head + i) % 32]? =
      if i < k then some none else ev[(head + i) % 32]? := by
  induction k with
  | zero => rfl
  | succ k ih =>
    rw [List.range_succ, List.foldl_append, List.foldl_cons, List.foldl_nil, Vector.getElem?_setIfInBounds, ih (by omega)]
    by_cases hik : i = k
    · subst hik
      rw [if_pos rfl, if_pos (Nat.mod_lt _ (by decide)), if_pos (Nat.lt_succ_self _)]
    · have hpos : (head + k) % 32 ≠ (head + i) % 32 := by omega
      have hlt : i < k + 1 ↔ i < k := by omega
      simp only [if_neg hpos, hlt]

/-- Where the first `k` of `c` positions hold something, the list read off from position `k` on is the whole list without its
first `k` entries. -/
theorem filterMap_range_sub {α : Type} {f g : Nat → Option α} {k c : Nat} (hk : k ≤ c) (hheld : ∀ i, i < k → (f i).isSome = true)
    (hg : ∀ i, i < c - k → g i = f (k + i)) :
    (List.range (c - k)).filterMap g = ((List.range c).filterMap f).drop k := by
  have hfirst : ((List.range k).filterMap f).length = k := by
    have := List.filterMap_length_eq_length.mpr fun i hi => hheld i (List.mem_range.mp hi)
    rwa [List.length_range] at this
  have hrest : (List.range (c - k)).map g = (List.range (c - k)).map (f ∘ (k + ·)) :=
    List.map_congr_left fun i hi => hg i (List.mem_range.mp hi)
  have hsplit : List.range c = List.range k ++ (List.range (c - k)).map (k + ·) := by
    rw [← List.range_add, Nat.add_sub_cancel' hk]
  calc (List.range (c - k)).filterMap g
      = ((List.range (c - k)).map g).filterMap id := by rw [List.filterMap_map, Function.id_comp]
    _ = (List.range (c - k)).filterMap (f ∘ (k + ·)) := by rw [hrest, List.filterMap_map, Function.id_comp]
    _ = ((List.range c).filterMap f).drop k := by
      rw [hsplit, List.filterMap_append, List.filterMap_map, List.drop_left' hfirst]

section
variable {m : Mirror} (hcount : m.count ≤ 32)
include hcount

/-- The positions of the ring, counted from the old head, after `n` records are taken (R170). -/
theorem Mirror.take_position (n : Nat) {i : Nat} (hi : i < 32) :
    (m.take n).events[(m.head + i) % 32]? =
      if i < min n m.count then some none else m.events[(m.head + i) % 32]? :=
  getElem?_freePositions m.events m.head (min n m.count) (by omega) hi

/-- With `k` records taken, position `i` from the new head on is position `k + i` from the old one, which is not freed. -/
theorem Mirror.take_left (n : Nat) {i : Nat} (hi : i < m.count - min n m.count) :
    (m.take n).events[((m.take n).head + i) % 32]? = m.events[(m.head + (min n m.count + i)) % 32]? := by
  have hshift : ((m.take n).head + i) % 32 = (m.head + (min n m.count + i)) % 32 := by
    change ((m.head + min n m.count) % 32 + i) % 32 = _
    rw [Nat.mod_add_mod, Nat.add_assoc]
  rw [hshift, Mirror.take_position hcount n (by omega), if_neg (by omega)]

/-- While every position of the count holds a record, taking `n` drops the oldest `min n count` of them (R170). -/
theorem Mirror.records_take (n : Nat) (hheld : ∀ i, i < m.count → (m.events[(m.head + i) % 32]?.join).isSome = true) :
    (m.take n).records = m.records.drop (min n m.count) :=
  filterMap_range_sub (Nat.min_le_right n m.count) (fun i hi => hheld i (by omega))
    fun _ hi => congrArg Option.join (Mirror.take_left hcount n hi)

end

/-- An events-taken word that the mirror hears keeps its bytes, takes the records and completes its master (R4, R170). -/
theorem exec_eventsTaken_of_hears {s : State} {m : Master} {n : Byte} {rest : BitVec 24} (h : s.settle.mirrorHears m) :
    exec (.eventsTaken m n rest) s = .next
      { s.settle with
        bus := s.settle.bus.setPort m (.answered .completion)
        mirror := { s.settle.mirror.take n.toNat with eventsTaken := rest ++ n } } := by
  change mirrorCommand m (eventsTakenWord n rest) s = _
  rw [mirrorCommand_taken h]
  rfl

/-- Settles O56: the ring invariant says that the positions that are freed hold the oldest records, and the word's own bytes are no
part of the ring. -/
theorem eventsTakenRemoved : Obligations.EventsTakenRemoved := by
  intro s u m n rest k hsettle hhears hring hk
  subst hsettle hk
  obtain ⟨-, hcount, hpositions⟩ := hring
  refine ⟨_, exec_eventsTaken_of_hears hhears, rfl, fun i hi => ?_, ?_⟩
  · exact (Mirror.take_position hcount n.toNat (by omega)).trans (if_pos hi)
  · exact Mirror.records_take hcount n.toNat fun i hi => (hpositions i (by omega)).mpr hi

end Sys2Proof.Machine

/-! # Proofs: what a step can do -/

namespace Sys2Proof.Machine

/-! ## The moves

Every acceptance is a sequence of moves, each of which changes one block, or the blocks that a rule ties together. The invariants of
the blocks are then shown once for each move. -/

/-- A change of the frame table's records, free-frame count and pace state (R33 to R39, R47, R48). -/
inductive Frames.Move (u : Setup) (f : Frames) : Frames → Prop where
  /-- A record that is FREE after as before, BOUND exactly while its count is above 0. -/
  | record (n : Nat) (r : FrameRecord) (hfree : r.state = .free ↔ (f.at n).state = .free)
      (hbound : ((f.at n).state = .bound ↔ 0 < (f.at n).count) → (r.state = .bound ↔ 0 < r.count)) : Move u f (f.put n r)
  /-- A FREE frame is committed. -/
  | commit (n : Nat) (toggle : Bool) (hfree : (f.at n).state = .free) :
      Move u f (Frames.setFree u (f.free - 1) (f.put n ((f.at n).commit toggle)))
  /-- A READY frame is freed. -/
  | freeUp (n : Nat) (hready : (f.at n).state = .ready) : Move u f (f.freeUp u n)

/-- A change of the imaging window list (R40 to R42, R136). -/
inductive WindowMove (f : Frames) : List WindowEntry → Prop where
  /-- A face is opened while fewer than two are open. -/
  | openFace (n : Nat) (face : Face) (hroom : f.openFaces < 2) : WindowMove f (f.openFace n face).window
  /-- Faces are closed, and an entry without a face leaves the list. -/
  | close (keep : Face → Bool) : WindowMove f
      ((f.window.map fun e => { e with faces := e.faces.filter keep }).filter fun e => !e.faces.isEmpty)
  /-- The list is emptied. -/
  | clear : WindowMove f []

/-- A change of the order stage (R50, R60 to R65). -/
inductive Orders.Move (o : Orders) : Orders → Prop where
  /-- The pending queue and the PENDING flags stay. -/
  | keep (o' : Orders) (hqueue : o'.queue = o.queue) (hslots : ∀ k, (o'.slot k).pending = (o.slot k).pending) : Move o o'
  /-- An EMPTY slot becomes PENDING and joins the tail. -/
  | join (o' : Orders) (k : Nat) (hk : k < 32) (hempty : (o.slot k).pending = false) (hqueue : o'.queue = o.queue ++ [k])
      (hslots : ∀ j, (o'.slot j).pending = if j = k then true else (o.slot j).pending) : Move o o'
  /-- The head's slot becomes EMPTY. -/
  | leave (o' : Orders) (k : Nat) (rest : List Nat) (hhead : o.queue = k :: rest) (hqueue : o'.queue = rest)
      (hslots : ∀ j, (o'.slot j).pending = if j = k then false else (o.slot j).pending) : Move o o'
  /-- Every slot of the queue becomes EMPTY. -/
  | clear (o' : Orders) (hqueue : o'.queue = [])
      (hslots : ∀ j, (o'.slot j).pending = true → (o.slot j).pending = true ∧ j ∉ o.queue) : Move o o'

/-- A change of the path sequencer (R87 to R101), `empty` saying that no sheet is in the table: sheets are left in RUNNING and
DRAINING alone, and a counter that does not run is 0, or is kept where it did not run before. -/
structure Sequencer.Move (empty : Prop) (q q' : Sequencer) : Prop where
  armed : q'.path = .unconfigured ↔ q.path = .unconfigured
  sheets : q'.path ≠ .running ∧ q'.path ≠ .draining → empty ∨ q.path ≠ .running ∧ q.path ≠ .draining
  start : q'.path ≠ .starting → q'.startCtr = 0 ∨ q.path ≠ .starting ∧ q'.startCtr = q.startCtr
  stall : q'.path.driven = false → q'.stallCtr = 0 ∨ q.path.driven = false ∧ q'.stallCtr = q.stallCtr
  idle : q'.path ≠ .running → q'.idleCtr = 0 ∨ q.path ≠ .running ∧ q'.idleCtr = q.idleCtr

/-- One move of the part. The bus passage, the input levels, the setup values in force and the model's own fields stay. -/
inductive Move (s : State) : State → Prop where
  /-- An event is queued (R171). -/
  | report (r : EventRecord) : Move s { s with mirror := s.mirror.push r }
  /-- The oldest events are taken (R170). -/
  | takeEvents (n : Nat) : Move s { s with mirror := s.mirror.take n }
  /-- The latched conditions and the request words change (R164 to R169). -/
  | flags (m : Mirror) (hevents : m.events = s.mirror.events) (hhead : m.head = s.mirror.head)
      (hcount : m.count = s.mirror.count) : Move s { s with mirror := m }
  /-- The path clock changes (chapter 5). -/
  | clock (c : Clock) : Move s { s with clock := c }
  /-- The setup image or the arm result changes (R16, R18). -/
  | image (i : Vector Line 8) (r : ArmResult) : Move s { s with latch := { s.latch with image := i, armResult := r } }
  /-- The frame table changes. -/
  | frames (f : Frames) (h : Frames.Move s.setup s.frames f) : Move s { s with frames := f }
  /-- The imaging window list changes. -/
  | window (w : List WindowEntry) (h : WindowMove s.frames w) : Move s { s with frames := { s.frames with window := w } }
  /-- The order stage changes. -/
  | orders (o : Orders) (h : Orders.Move s.orders o) : Move s { s with orders := o }
  /-- The path state or a counter changes. -/
  | seqr (q : Sequencer) (h : Sequencer.Move (s.track.table = []) s.seqr q) : Move s { s with seqr := q }
  /-- The tracking table changes, its records' sequences and D_del staying (chapter 8). -/
  | track (t : Tracking) (htable : t.table.map Record.seq = s.track.table.map Record.seq) (hdel : t.dDel = s.track.dDel) :
      Move s { s with track := t }
  /-- The launch scheduler's registers change, and calendar slots are freed (R104, R106, R108). -/
  | schedule (l : Launch) (hcalendar : ∀ face, some face ∈ l.calendar.toList → some face ∈ s.launch.calendar.toList) :
      Move s { s with launch := l }
  /-- The reprint list's entries change, or entries leave it (R120, R162). -/
  | reprint (l : List OrderCopy) (hlength : l.length ≤ s.reprint.length) : Move s { s with reprint := l }
  /-- The freeze of a jam (R154, R155). -/
  | freeze : Move s s.freeze
  /-- A record joins the table and reserves calendar slots for its faces; its order comes from the head of the reprint list, or
  from the pending queue with an empty reprint list (R105, R109 to R114). -/
  | launch (r : Record) (l : Launch) (hpath : s.seqr.path = .running)
      (hroom : s.reprint = [] → s.track.table.length < 16)
      (hcalendar : ∀ face, some face ∈ l.calendar.toList → some face ∈ s.launch.calendar.toList ∨ face.seq = r.seq) :
      Move s { s with
        track := { s.track with table := s.track.table ++ [r] }
        launch := l
        reprint := s.reprint.tail }
  /-- A record leaves the table and the calendar; its order copy may enter the reprint list (R118, R143, R144). -/
  | remove (r : Record) (l : List OrderCopy) (hmem : r ∈ s.track.table) (hlength : l.length ≤ s.reprint.length + 1) :
      Move s { s with
        track := s.track.remove r.seq
        launch := (s.freeSheet r.seq).launch
        reprint := l }
  /-- D_del and the delivery record advance (R143). -/
  | deliver (q : Seq) :
      Move s { s with
        track := { s.track with dDel := q + 1 }
        latch := { s.latch with recordValid := true, recordSeq := q } }

/-- Finitely many steps of a relation between states, none included. -/
inductive Steps (r : State → State → Prop) : State → State → Prop where
  | refl {s : State} : Steps r s s
  | tail {s t u : State} (hfirst : Steps r s t) (hlast : r t u) : Steps r s u

theorem Steps.single {r : State → State → Prop} {s t : State} (h : r s t) : Steps r s t := .tail .refl h

theorem Steps.trans {r : State → State → Prop} {s t u : State} (h : Steps r s t) (h' : Steps r t u) : Steps r s u := by
  induction h' with
  | refl => exact h
  | tail _ hlast ih => exact .tail ih hlast

theorem Steps.mono {r r' : State → State → Prop} (hr : ∀ s t, r s t → r' s t) {s t : State} (h : Steps r s t) : Steps r' s t := by
  induction h with
  | refl => exact .refl
  | tail _ hlast ih => exact .tail ih (hr _ _ hlast)

/-- A sequence of moves. -/
abbrev Moves : State → State → Prop := Steps Move

/-- What every sequence of moves leaves as it is. -/
structure SameFrame (s t : State) : Prop where
  bus : t.bus = s.bus
  pins : t.pins = s.pins
  freeCount : t.freeCount = s.freeCount
  pending : t.pending = s.pending
  setup : t.setup = s.setup
  armed : t.armed = s.armed

/-- A move of the sequencer leaves the part armed or not as it was (R87). -/
theorem Sequencer.Move.armed_eq {e : Prop} {s : State} {q : Sequencer} (h : Sequencer.Move e s.seqr q) :
    State.armed { s with seqr := q } = s.armed := by
  have := h.armed
  rw [Bool.eq_iff_iff]
  simp only [State.armed, bne_iff_ne, ne_eq, this]

theorem Move.frame {s t : State} (h : Move s t) : SameFrame s t := by
  cases h with
  | seqr q hq => exact ⟨rfl, rfl, rfl, rfl, rfl, hq.armed_eq⟩
  | _ => exact ⟨rfl, rfl, rfl, rfl, rfl, rfl⟩

theorem Moves.frame {s t : State} (h : Moves s t) : SameFrame s t := by
  induction h with
  | refl => exact ⟨rfl, rfl, rfl, rfl, rfl, rfl⟩
  | tail _ hstep ih =>
    have hs := hstep.frame
    exact ⟨hs.bus.trans ih.bus, hs.pins.trans ih.pins, hs.freeCount.trans ih.freeCount, hs.pending.trans ih.pending,
      hs.setup.trans ih.setup, hs.armed.trans ih.armed⟩

theorem Moves.bus_eq {s t : State} (h : Moves s t) : t.bus = s.bus := h.frame.bus

/-- One move as a sequence. -/
theorem Move.moves {s t : State} (h : Move s t) : Moves s t := .single h

/-! ### Events and path states -/

theorem raise_moves (e : Event) (s : State) : Moves s (s.raise e) := (Move.report _).moves

theorem refuse_moves (c : Byte) (s : State) : Moves s (s.refuse c) := raise_moves _ s

theorem raiseAt_moves (e : Event) (a : PathCount) (s : State) : Moves s (s.raiseAt e a) := (Move.report _).moves

theorem guardAbort_moves (g : GuardTarget) (m : Master) (s : State) : Moves s (s.guardAbort g m) :=
  (Move.flags { s.mirror with guardSeen := true } rfl rfl rfl).moves.trans (raise_moves _ _)

theorem rangeFault_moves (m : Master) (l : LineNo) (s : State) : Moves s (s.rangeFault m l) :=
  (Move.flags { s.mirror with rangeSeen := true } rfl rfl rfl).moves.trans (raise_moves _ _)

/-- A path state is entered with the sequencer's other values, and reported (R87). -/
theorem enter_moves {s : State} {p : PathState} {q : Sequencer}
    (h : Sequencer.Move (s.track.table = []) s.seqr { q with path := p }) :
    Moves s (State.enter p { s with seqr := q }) :=
  (Move.seqr _ h).moves.trans (raise_moves (.stateChange p) _)

theorem enterStarting_moves {s : State} (h : s.seqr.path = .idle ∨ s.seqr.path = .standby) : Moves s s.enterStarting := by
  refine (Move.clock { s.clock with pitchRem := 0 }).moves.trans (enter_moves ?_)
  rcases h with h | h <;> constructor <;> simp [h, PathState.driven]

theorem enterRunning_moves {s : State} (h : s.seqr.path = .starting) : Moves s s.enterRunning := by
  refine enter_moves (q := { s.seqr with startCtr := 0, idleCtr := 0 }) ?_
  constructor <;> simp [h, PathState.driven]

/-- The entry to IDLE or STANDBY with an empty table, or from a state without launched sheets. -/
theorem enterStopped_moves {s : State} {p : PathState} (hp : p = .idle ∨ p = .standby) (harmed : s.seqr.path ≠ .unconfigured)
    (h : s.track.table = [] ∨ s.seqr.path ≠ .running ∧ s.seqr.path ≠ .draining) : Moves s (s.enterStopped p) := by
  refine (Move.track s.track.stopped rfl rfl).moves.trans
    (enter_moves (q := { s.seqr with startCtr := 0, stallCtr := 0, idleCtr := 0 }) ?_)
  rcases hp with rfl | rfl <;> constructor <;> simp [h, harmed, Tracking.stopped]

theorem drainDone_moves (s : State) : Moves s s.drainDone := by
  unfold State.drainDone
  split
  · rename_i h
    exact enterStopped_moves (.inl rfl) (by simp [h.1]) (.inl h.2)
  · exact .refl

theorem enterDraining_moves {s : State} (h : s.seqr.path = .starting ∨ s.seqr.path = .running) : Moves s s.enterDraining := by
  refine (enter_moves (p := .draining) (q := { s.seqr with startCtr := 0, idleCtr := 0 }) ?_).trans (drainDone_moves _)
  rcases h with h | h <;> constructor <;> simp [h, PathState.driven]

/-- A driven path is not UNCONFIGURED. -/
theorem State.armed_of_driven {s : State} (h : s.driven = true) : s.seqr.path ≠ .unconfigured := by
  intro hpath
  simp [State.driven, hpath, PathState.driven] at h

theorem jam_moves (c : JamCode) (st : Option Sensor) (q : Option Seq) (a : PathCount) (s : State) :
    Moves s (s.jam c st q a) := by
  cases hdriven : s.driven with
  | false =>
    rw [State.jam_stopped hdriven]
    exact .refl
  | true =>
    rw [State.jam_driven hdriven]
    have harmed := State.armed_of_driven hdriven
    have hseqr : Sequencer.Move (s.freeze.track.table = []) s.freeze.seqr
        { path := .jammed, jam := some ⟨c, st, q, a⟩, startCtr := 0, stallCtr := 0, idleCtr := 0, motionSeen := false } := by
      constructor <;> simp [State.freeze, Tracking.frozen, harmed]
    exact (Move.freeze.moves.trans (Move.seqr _ hseqr).moves).trans
      ((raiseAt_moves (.jam c st q) a _).trans (raise_moves (.stateChange .jammed) _))

/-- The idle counter is set to 0, or left (R98). -/
theorem idleReset_moves (c : Prop) [Decidable c] (s : State) :
    Moves s { s with seqr := if c then { s.seqr with idleCtr := 0 } else s.seqr } := by
  refine (Move.seqr _ ?_).moves
  split <;> constructor <;> simp +contextual

/-! ### Frames -/

/-- One release (R36). -/
theorem releaseOne_moves (s : State) (need : Nat × Nat) : Moves s (releaseOne s need) := by
  simp only [releaseOne]
  split
  · rename_i hbound
    split
    · exact (Move.frames _ (.record need.1 _ (by simp [hbound]) (by simp))).moves.trans (raise_moves _ _)
    · exact (Move.frames _ (.record need.1 _ (by simp [hbound]) (by simp [hbound]; omega))).moves
  · exact .refl

/-- A fold of state changes that are sequences of moves is one. -/
theorem foldl_moves {α : Type} {f : State → α → State} (h : ∀ s x, Moves s (f s x)) (l : List α) (s : State) :
    Moves s (l.foldl f s) := by
  induction l generalizing s with
  | nil => exact .refl
  | cons x xs ih => exact (h s x).trans (ih _)

theorem release_moves (o : Order) (s : State) : Moves s (s.release o) := foldl_moves releaseOne_moves _ _

/-- A write to a frame (R30 to R34). -/
theorem frameWrite_moves (n : Nat) (w : WriteReq) (s : State) : Moves s (frameWrite n w s).2 := by
  have hcount (t : Bool) : ((s.frames.at n).commit t).count = (s.frames.at n).count := rfl
  simp only [frameWrite]
  split
  next => exact guardAbort_moves _ _ s
  next hfree =>
    split
    · exact (Move.frames _ (.commit n _ hfree)).moves
    · exact .refl
  next hready =>
    split
    · split
      · exact (Move.frames _ (.record n _ (by simp [hready, FrameRecord.commit])
          (by simp [hready, FrameRecord.commit]))).moves
      · exact .refl
    · exact (Move.frames _ (.freeUp n hready)).moves
  next => exact .refl

/-- Taking references leaves every frame that is not FREE so (R35). -/
theorem Frames.takeRef_not_free {f : Frames} {n : Nat} (need : Nat × Nat) (h : (f.at n).state ≠ .free) :
    ((f.takeRef need).at n).state ≠ .free := by
  by_cases hlt : need.1 < 64
  · rw [Frames.takeRef, Frames.at_put _ _ _ hlt]
    split
    · simp
    · exact h
  · rw [Frames.takeRef, Frames.put_of_le _ _ _ (by omega)]
    exact h

/-- The references of an order are taken, on frames that are not FREE (R35). -/
theorem takeRefs_moves (needs : List (Nat × Nat)) {s : State} (h : ∀ x ∈ needs, (s.frames.at x.1).state ≠ .free ∧ 0 < x.2) :
    Moves s { s with frames := needs.foldl Frames.takeRef s.frames } := by
  induction needs generalizing s with
  | nil => exact .refl
  | cons x xs ih =>
    have hx := h x (by simp)
    have hfirst : Frames.Move s.setup s.frames (s.frames.takeRef x) :=
      .record x.1 _ (by simp [hx.1]) (by simp; omega)
    exact (Move.frames _ hfirst).moves.trans
      (ih (s := { s with frames := s.frames.takeRef x }) fun y hy =>
        ⟨Frames.takeRef_not_free x (h y (by simp [hy])).1, (h y (by simp [hy])).2⟩)

/-! ### Orders -/

/-- A frame that an order's needs name is one of its named frames, and is needed at least once (R59). -/
theorem Order.needs_spec {o : Order} {x : Nat × Nat} (h : x ∈ o.needs) : 0 < x.2 ∧ ∃ f ∈ o.names, f.frame = x.1 := by
  unfold Order.needs at h
  unfold Order.names
  split at h
  next => simp at h
  next f hf hb => simp_all
  next b hf hb => simp_all
  next f b hf hb =>
    split at h
    · simp_all
    · simp only [List.mem_cons, List.not_mem_nil, or_false] at h
      rcases h with rfl | rfl <;> simp [hf, hb]

/-- A frame that is not stale is READY or BOUND (R35). -/
theorem Frames.not_free_of_not_stale {f : Frames} {x : FrameRef} (h : f.stale x = false) : (f.at x.frame).state ≠ .free := by
  intro hfree
  simp [Frames.stale, hfree] at h

/-- A post that passes the checks names no stale frame and needs no full one, and meets the other checks (R54). -/
theorem postCheck_none {s : State} {l : Line} : postCheck s l = none ↔
    (orderOfLine l).seq = s.orders.ePost ∧ setContinues s.orders.posted l = true ∧
    formValid s.setup.frameCount l = true ∧ (∀ f ∈ (orderOfLine l).names, s.frames.stale f = false) ∧
    ∀ x ∈ (orderOfLine l).needs, s.frames.full x = false := by
  simp only [postCheck]
  split <;> rename_i h1
  · simp_all
  split <;> rename_i h2
  · simp_all
  split <;> rename_i h3
  · simp_all
  split <;> rename_i h4
  · refine iff_of_false (by simp) fun h => ?_
    obtain ⟨-, -, -, hfresh, -⟩ := h
    obtain ⟨f, hf, hstale⟩ := List.any_eq_true.mp h4
    rw [hfresh f hf] at hstale
    exact Bool.false_ne_true hstale
  split <;> rename_i h5
  · refine iff_of_false (by simp) fun h => ?_
    obtain ⟨-, -, -, -, hroom⟩ := h
    obtain ⟨x, hx, hfull⟩ := List.any_eq_true.mp h5
    rw [hroom x hx] at hfull
    exact Bool.false_ne_true hfull
  · simp_all

/-- What an accepted order leaves before the path may wake (R60, R98). -/
def State.joinOrder (k : Nat) (o : Order) (s : State) : State :=
  { s with
    frames := o.needs.foldl Frames.takeRef s.frames
    orders :=
      { s.orders.putSlot k { s.orders.slot k with pending := true } with
        queue := s.orders.queue ++ [k], ePost := s.orders.ePost + 1, posted := positionAfter o }
    seqr := if s.orders.queue.isEmpty then { s.seqr with idleCtr := 0 } else s.seqr }

/-- In STANDBY with the cover closed an accepted order wakes the path (R100). -/
theorem acceptOrder_eq (k : Nat) (o : Order) (s : State) :
    acceptOrder k o s = if s.seqr.path = .standby ∧ s.pins.coverClosed = true then (s.joinOrder k o).enterStarting
      else s.joinOrder k o := rfl

theorem joinOrder_slot {k : Nat} (hk : k < 32) (o : Order) (s : State) (j : Nat) :
    (s.joinOrder k o).orders.slot j = if j = k then ⟨true, (s.orders.slot k).latched⟩ else s.orders.slot j :=
  Orders.slot_putSlot s.orders k _ hk j

theorem joinOrder_path (k : Nat) (o : Order) (s : State) : (s.joinOrder k o).seqr.path = s.seqr.path := by
  unfold State.joinOrder
  dsimp only
  split <;> rfl

theorem joinOrder_moves {s : State} {k : Nat} {o : Order} (hk : k < 32) (hempty : (s.orders.slot k).pending = false)
    (hfresh : ∀ f ∈ o.names, s.frames.stale f = false) : Moves s (s.joinOrder k o) := by
  have hrefs : Moves s { s with frames := o.needs.foldl Frames.takeRef s.frames } := takeRefs_moves _ fun x hx => by
    obtain ⟨hpos, f, hf, hframe⟩ := Order.needs_spec hx
    exact ⟨hframe ▸ Frames.not_free_of_not_stale (hfresh f hf), hpos⟩
  have hjoin : Orders.Move s.orders (s.joinOrder k o).orders := by
    refine .join _ k hk hempty rfl fun j => ?_
    rw [joinOrder_slot hk]
    split <;> rfl
  exact (hrefs.tail (.orders _ hjoin)).trans (idleReset_moves (s.orders.queue.isEmpty = true) _)

/-- Acceptance of an order into an EMPTY slot (R60). -/
theorem acceptOrder_moves {s : State} {k : Nat} {o : Order} (hk : k < 32) (hempty : (s.orders.slot k).pending = false)
    (hfresh : ∀ f ∈ o.names, s.frames.stale f = false) : Moves s (acceptOrder k o s) := by
  have hjoin := joinOrder_moves hk hempty hfresh
  rw [acceptOrder_eq]
  split
  next hwake => exact hjoin.trans (enterStarting_moves (.inr ((joinOrder_path k o s).trans hwake.1)))
  next => exact hjoin

/-- A post to an EMPTY slot (R54). -/
theorem post_moves {s : State} {k : Nat} (hk : k < 32) (hempty : (s.orders.slot k).pending = false) : Moves s (post k s) := by
  unfold post
  split
  · exact raise_moves _ s
  · rename_i hnone
    obtain ⟨-, -, -, hfresh, -⟩ := postCheck_none.mp hnone
    exact acceptOrder_moves hk hempty hfresh

/-- A write's bytes are latched in a slot, which stays as it was otherwise (R51). -/
def State.latchSlot (k : Nat) (w : WriteReq) (s : State) : State :=
  { s with orders := s.orders.putSlot k ⟨(s.orders.slot k).pending, mergeLine (s.orders.slot k).latched w.data w.enables⟩ }

theorem State.latchSlot_slot {k : Nat} (hk : k < 32) (w : WriteReq) (s : State) (j : Nat) :
    (s.latchSlot k w).orders.slot j =
      if j = k then ⟨(s.orders.slot k).pending, mergeLine (s.orders.slot k).latched w.data w.enables⟩
      else s.orders.slot j := Orders.slot_putSlot s.orders k _ hk j

theorem latchSlot_moves {k : Nat} (hk : k < 32) (w : WriteReq) (s : State) : Moves s (s.latchSlot k w) := by
  refine (Move.orders (s := s) (s.latchSlot k w).orders (.keep _ rfl fun j => ?_)).moves
  rw [State.latchSlot_slot hk]
  split
  next h => rw [h]
  next => rfl

/-- A write to a staging slot, by whether the slot is PENDING and the write a post (R51 to R53). -/
theorem stagingWrite_cases (k : Nat) (w : WriteReq) (s : State) :
    ((s.orders.slot k).pending = true → stagingWrite k w s =
      (false, if isPost w then s.raise (.orderRefused .slotBusy k) else s.guardAbort (.slot k) w.master)) ∧
    ((s.orders.slot k).pending = false → stagingWrite k w s =
      (true, if isPost w then post k (s.latchSlot k w) else s.latchSlot k w)) := by
  refine ⟨fun h => ?_, fun h => ?_⟩
  · simp only [stagingWrite, if_pos h]
    split <;> rfl
  · simp only [stagingWrite, h, Bool.false_eq_true, if_false, State.latchSlot]

theorem stagingWrite_moves {k : Nat} (hk : k < 32) (w : WriteReq) (s : State) : Moves s (stagingWrite k w s).2 := by
  obtain ⟨hbusy, hfree⟩ := stagingWrite_cases k w s
  cases hpending : (s.orders.slot k).pending with
  | true =>
    rw [hbusy hpending]
    dsimp only
    split
    · exact raise_moves _ s
    · exact guardAbort_moves _ _ s
  | false =>
    rw [hfree hpending]
    dsimp only
    split
    · refine (latchSlot_moves hk w s).trans (post_moves hk ?_)
      rw [State.latchSlot_slot hk, if_pos rfl]
      exact hpending
    · exact latchSlot_moves hk w s

/-- A release reads and changes nothing of the order stage. -/
theorem foldl_releaseOne_orders (needs : List (Nat × Nat)) (s : State) (o : Orders) :
    needs.foldl releaseOne { s with orders := o } = { needs.foldl releaseOne s with orders := o } := by
  induction needs generalizing s with
  | nil => rfl
  | cons x xs ih =>
    have hone : releaseOne { s with orders := o } x = { releaseOne s x with orders := o } := by
      simp only [releaseOne]
      split
      · split <;> rfl
      · rfl
    rw [List.foldl_cons, hone, ih, List.foldl_cons]

theorem foldl_releaseOne_orders_eq (needs : List (Nat × Nat)) (s : State) : (needs.foldl releaseOne s).orders = s.orders :=
  (congrArg State.orders (foldl_releaseOne_orders needs s s.orders) :)

/-- An emptied slot keeps its copy, and the others stay (R62, R63). -/
theorem Orders.slot_empty (o : Orders) (k j : Nat) :
    (o.empty k).slot j = if j = k then { o.slot j with pending := false } else o.slot j := by
  by_cases hk : k < 32
  · rw [Orders.empty, Orders.slot_putSlot _ _ _ hk]
    split
    next h => rw [h]
    next => rfl
  · have hsame : (o.empty k).slot j = o.slot j := by
      have hput : o.slots.setIfInBounds k { o.slot k with pending := false } = o.slots := by
        ext i hi; simp [show k ≠ i by omega]
      simp only [Orders.empty, Orders.putSlot, Orders.slot] at hput ⊢
      rw [hput]
    rw [hsame]
    split
    next h =>
      have : o.slot j = ⟨false, 0⟩ := by simp [Orders.slot, h, hk]
      rw [this]
    next => rfl

theorem Orders.foldl_empty_slot (ks : List Nat) (o : Orders) (j : Nat) :
    (ks.foldl Orders.empty o).slot j = if j ∈ ks then { o.slot j with pending := false } else o.slot j := by
  induction ks generalizing o with
  | nil => rfl
  | cons k ks ih =>
    rw [List.foldl_cons, ih, Orders.slot_empty]
    by_cases hjk : j = k <;> by_cases hj : j ∈ ks <;> simp [hjk, hj]

theorem Orders.foldl_empty_frame (ks : List Nat) (o : Orders) :
    ks.foldl Orders.empty o = { o with slots := (ks.foldl Orders.empty o).slots } := by
  induction ks generalizing o with
  | nil => rfl
  | cons k ks ih =>
    rw [List.foldl_cons, ih]
    rfl

/-- What taking back the pending orders comes to: their references are released, head first, and their slots become EMPTY (R63). -/
theorem foldl_cancelOne (ks : List Nat) (s : State) :
    ks.foldl cancelOne s =
      { (ks.flatMap fun k => (s.orders.orderAt k).needs).foldl releaseOne s with orders := ks.foldl Orders.empty s.orders } := by
  induction ks generalizing s with
  | nil => rfl
  | cons k ks ih =>
    have hone : cancelOne s k = { s.release (s.orders.orderAt k) with orders := s.orders.empty k } := by
      have := congrArg State.orders (State.release_frame (s.orders.orderAt k) s)
      simp only [cancelOne, this]
    have horders (j : Nat) : (s.orders.empty k).orderAt j = s.orders.orderAt j := by
      simp only [Orders.orderAt, Orders.slot_empty]
      split <;> rfl
    simp only [List.foldl_cons, hone, ih, horders, foldl_releaseOne_orders, List.flatMap_cons, List.foldl_append]
    rfl

/-- CANCEL_PENDING when it is taken (R63). -/
theorem cancelAll_moves (s : State) : Moves s s.cancelAll := by
  unfold State.cancelAll
  split
  next => exact .refl
  next k rest hqueue =>
    have hrelease : Moves s ((s.orders.queue.flatMap fun k => (s.orders.orderAt k).needs).foldl releaseOne s) :=
      foldl_moves releaseOne_moves _ _
    rw [foldl_cancelOne]
    refine hrelease.tail (.orders _ (.clear _ rfl fun j hj => ?_))
    have hslot : ((s.orders.queue.foldl Orders.empty s.orders).slot j).pending = true := hj
    have hkeep := foldl_releaseOne_orders_eq (s.orders.queue.flatMap fun k => (s.orders.orderAt k).needs) s
    rw [Orders.foldl_empty_slot] at hslot
    rw [hkeep]
    split at hslot
    next => simp at hslot
    next hout => exact ⟨hslot, hout⟩

/-! ### Requests -/

theorem requestRun_moves (s : State) : Moves s (requestRun s) := by
  unfold requestRun
  split
  next h =>
    split
    · exact enterStarting_moves (.inl h)
    · exact refuse_moves _ s
  next h =>
    split
    · exact enterStarting_moves (.inr h)
    · exact refuse_moves _ s
  next => exact .refl
  next => exact .refl
  next => exact refuse_moves _ s
  next => exact refuse_moves _ s
  next => exact .refl

theorem requestDrain_moves (s : State) : Moves s (requestDrain s) := by
  unfold requestDrain
  split
  next h => exact enterDraining_moves (.inr h)
  next h => exact enterDraining_moves (.inl h)
  next h => exact enterStopped_moves (.inl rfl) (by simp [h]) (.inr (by simp [h]))
  next => exact .refl
  next => exact .refl
  next => exact refuse_moves _ s
  next => exact .refl

theorem requestHalt_moves (s : State) : Moves s (requestHalt s) := by
  unfold requestHalt
  split
  · exact jam_moves _ _ _ _ s
  · exact refuse_moves _ s

theorem requestResume_moves (s : State) : Moves s (requestResume s) := by
  unfold requestResume
  split
  next h =>
    split
    · exact raise_moves _ s
    · split
      · exact enterStopped_moves (.inl rfl) (by simp [h]) (.inr (by simp [h]))
      · exact raise_moves _ s
  next => exact refuse_moves _ s

/-- With nothing to do the table is empty (R98). -/
theorem State.table_of_nothingToDo {s : State} (h : s.nothingToDo = true) : s.track.table = [] := by
  simp only [State.nothingToDo, Bool.and_eq_true, List.isEmpty_iff] at h
  exact h.2

theorem requestStandby_moves (s : State) : Moves s (requestStandby s) := by
  unfold requestStandby
  split
  next h =>
    split
    next hnothing => exact enterStopped_moves (.inr rfl) (by simp [h]) (.inl (State.table_of_nothingToDo hnothing))
    next => exact raise_moves _ s
  next => exact .refl
  next => exact refuse_moves _ s
  next => exact refuse_moves _ s
  next => exact refuse_moves _ s
  next => exact refuse_moves _ s
  next => exact .refl

theorem resetFrame_moves (s : State) (n : Nat) : Moves s (resetFrame s n) := by
  simp only [resetFrame]
  split
  next h => exact (Move.frames _ (.record n _ (by simp [h]) (by simp))).moves.trans (raise_moves _ _)
  next h => exact (Move.frames _ (.record n { s.frames.at n with count := 0 } Iff.rfl (by simp [h]))).moves

/-- PATH_RESET when it is taken (R102). -/
theorem pathReset_moves {s : State} (harmed : s.seqr.path ≠ .unconfigured) : Moves s s.pathReset := by
  obtain ⟨f, m, hfold, -, -⟩ := resetFrames_fold s 64 (Nat.le_refl _)
  have hframes : Moves s ((List.range 64).foldl resetFrame s) := foldl_moves resetFrame_moves _ _
  have hreset : s.resetFrames = ((List.range 64).foldl resetFrame s).onFrames fun f => { f with window := [] } := rfl
  rw [hfold] at hframes hreset
  have horders : Orders.Move s.orders (s.orders.pathReset s.track.dDel) :=
    .clear _ rfl fun j hj => by
      simp only [Orders.pathReset, Orders.slot] at hj
      simp at hj
      cases h : s.orders.slots[j]? <;> simp [h] at hj
  have hseqr : Sequencer.Move (s.track.frozen.table = []) s.seqr
      { s.seqr with path := .idle, startCtr := 0, stallCtr := 0, idleCtr := 0, motionSeen := false } := by
    constructor <;> simp [harmed, Tracking.frozen]
  have hbase := (((hframes.tail .freeze).tail (.reprint [] (Nat.zero_le _))).tail (.orders _ horders)).tail (.seqr _ hseqr)
  simp only [State.pathReset, hreset]
  split
  · exact hbase
  · exact hbase.trans (raise_moves _ _)

/-- The path states in which a request is taken on a stopped path are armed ones (R89). -/
theorem PathState.armed_of_stopped {p : PathState} (h : p.stopped = true) : p ≠ .unconfigured := by
  rintro rfl
  simp [PathState.stopped] at h

theorem requestPathReset_moves (s : State) : Moves s (requestPathReset s) := by
  unfold requestPathReset
  split
  next h => exact pathReset_moves (PathState.armed_of_stopped h)
  next => exact refuse_moves _ s

theorem requestCancel_moves (s : State) : Moves s (requestCancel s) := by
  unfold requestCancel
  split
  · exact cancelAll_moves s
  · exact refuse_moves _ s

theorem requestClearTrayStall_moves (a : Byte) (s : State) : Moves s (requestClearTrayStall a s) := by
  unfold requestClearTrayStall
  split
  next h =>
    exact (Move.schedule { s.launch with stalled := s.launch.stalled.set a.toNat false h } fun _ => id).moves.tail
      (.reprint _ (by simp))
  next => exact refuse_moves _ s

theorem requestReleaseFrame_moves (a : Byte) (s : State) : Moves s (requestReleaseFrame a s) := by
  simp only [requestReleaseFrame]
  split
  · exact refuse_moves _ s
  · split
    next h => exact (Move.frames _ (.freeUp _ h)).moves
    next => exact .refl
    next => exact refuse_moves _ s
    next => exact refuse_moves _ s

theorem clearConditions_moves (b : Byte) (s : State) : Moves s (clearConditions b s) :=
  (Move.flags (s := s) (clearConditions b s).mirror rfl rfl rfl).moves

theorem dispatchRequest_moves (c a : Byte) (s : State) : Moves s (dispatchRequest c a s) := by
  unfold dispatchRequest
  split
  · exact requestRun_moves s
  · exact requestDrain_moves s
  · exact requestHalt_moves s
  · exact requestResume_moves s
  · exact requestStandby_moves s
  · exact requestCancel_moves s
  · exact requestPathReset_moves s
  · exact requestClearTrayStall_moves a s
  · exact requestReleaseFrame_moves a s
  · exact clearConditions_moves a s
  · exact refuse_moves c s

theorem controlWord_moves (c a b x : Byte) (s : State) : Moves s (controlWord c a b x s) := by
  simp only [controlWord]
  split
  · exact (Move.flags { s.mirror with control := x ++ b ++ a ++ c } rfl rfl rfl).moves
  · exact (Move.flags { s.mirror with control := x ++ b ++ a ++ c, lastToggle := b.getLsbD 0 } rfl rfl rfl).moves.trans
      (dispatchRequest_moves c a _)

theorem eventsTakenWord_moves (n : Byte) (rest : BitVec 24) (s : State) : Moves s (eventsTakenWord n rest s) :=
  (Move.flags { s.mirror with eventsTaken := rest ++ n } rfl rfl rfl).moves.tail (.takeEvents _)

theorem clearStandingWord_moves (b : Byte) (rest : BitVec 24) (s : State) : Moves s (clearStandingWord b rest s) :=
  (Move.flags { s.mirror with clearStanding := rest ++ b } rfl rfl rfl).moves.trans (clearConditions_moves b _)

theorem mirrorWrite_moves (k : Nat) (en : Enables) (data : Line) (s : State) : Moves s (mirrorWrite k en data s) := by
  unfold mirrorWrite
  split
  · split
    · exact controlWord_moves _ _ _ _ s
    · exact eventsTakenWord_moves _ _ s
    · exact clearStandingWord_moves _ _ s
    · exact .refl
  · exact .refl

end Sys2Proof.Machine

/-! # Proofs: tracking and launches as moves -/

namespace Sys2Proof.Machine

/-! ### Tracking -/

/-- The tracking table changes with the records' sequences and D_del kept. -/
def Tracking.Kept (t t' : Tracking) : Prop := t'.table.map Record.seq = t.table.map Record.seq ∧ t'.dDel = t.dDel

theorem Tracking.Kept.trans {a b c : Tracking} (h : a.Kept b) (h' : b.Kept c) : a.Kept c :=
  ⟨h'.1.trans h.1, h'.2.trans h.2⟩

theorem Tracking.Kept.moves {s : State} {t : Tracking} (h : s.track.Kept t) : Moves s { s with track := t } :=
  (Move.track t h.1 h.2).moves

/-- A change of every record that keeps the order copies. -/
theorem Tracking.map_kept (t : Tracking) (g : Record → Record) (hg : ∀ r, (g r).copy = r.copy) :
    t.Kept { t with table := t.table.map g } := by
  refine ⟨?_, rfl⟩
  simp only [List.map_map]
  exact List.map_congr_left fun r _ => by simp only [Function.comp, Record.seq, hg]

theorem Tracking.modify_kept (t : Tracking) (q : Seq) (g : Record → Record) (hg : ∀ r, (g r).copy = r.copy) :
    t.Kept (t.modify q g) :=
  Tracking.map_kept t _ fun r => by
    split
    · exact hg r
    · rfl

theorem Tracking.spoil_kept (t : Tracking) (q : Seq) (w : SpoilReason) : t.Kept (t.spoil q w) := by
  have hmark : t.Kept (t.modify q fun x => { x with spoiled := some w }) := t.modify_kept q _ fun _ => rfl
  unfold Tracking.spoil
  split
  · exact ⟨rfl, rfl⟩
  · split
    · exact ⟨rfl, rfl⟩
    · dsimp only
      split
      · refine hmark.trans ?_
        exact Tracking.map_kept _ _ fun r => by
          split
          · exact (Record.revert_facts r).1
          · rfl
      · exact hmark

theorem spoil_moves (q : Seq) (w : SpoilReason) (s : State) : Moves s (s.onTrack (Tracking.spoil q w)) :=
  (s.track.spoil_kept q w).moves

theorem Tracking.foldl_spoil_kept (l : List Seq) (w : SpoilReason) (t : Tracking) :
    t.Kept (l.foldl (fun acc q => acc.spoil q w) t) := by
  induction l generalizing t with
  | nil => exact ⟨rfl, rfl⟩
  | cons q qs ih => exact (t.spoil_kept q w).trans (ih _)

theorem spoilOpen_moves (w : SpoilReason) (s : State) : Moves s (s.spoilOpen w) :=
  (Tracking.foldl_spoil_kept _ w s.track).moves

theorem Tracking.joinGate_kept (t : Tracking) (q : Seq) : t.Kept (t.joinGate q) := by
  unfold Tracking.joinGate
  dsimp only
  split
  · rw [Tracking.showHead_frame]
    exact ⟨rfl, rfl⟩
  · exact ⟨rfl, rfl⟩

theorem Tracking.decide_kept (t : Tracking) (q : Seq) : t.Kept (t.decide q) := by
  unfold Tracking.decide
  split
  · exact ⟨rfl, rfl⟩
  · split
    · refine Tracking.Kept.trans ?_ (Tracking.joinGate_kept _ q)
      exact t.modify_kept q _ (by intro; rfl)
    · exact Tracking.Kept.trans (t.modify_kept q _ (by intro; rfl)) (Tracking.joinGate_kept _ q)

theorem Tracking.await_kept (u : Setup) (q : Seq) (l : PathCount) (sides : Sides) (v : Nat) (t : Tracking) :
    t.Kept (t.await u q l sides v) := by
  unfold Tracking.await
  split <;> exact ⟨rfl, rfl⟩

theorem Tracking.moveStuck_kept (u : Setup) (sn : Sensor) (o : Occupancy) (t : Tracking) : t.Kept (t.moveStuck u sn o) := by
  rw [Tracking.moveStuck_frame]
  exact ⟨rfl, rfl⟩

/-- A face is asked to open (R40, R41). -/
theorem openFor_moves (q : Seq) (side : Side) (ref : Option FrameRef) (s : State) : Moves s (openFor q side ref s) := by
  unfold openFor
  split
  · exact .refl
  · split
    · exact (Move.flags { s.mirror with fetchFault := true } rfl rfl rfl).moves.trans (spoil_moves q .fetch _)
    next f hroom =>
      have hwindow : s.frames.openFace f.frame ⟨q, side⟩ =
          { s.frames with window := (s.frames.openFace f.frame ⟨q, side⟩).window } := by
        unfold Frames.openFace
        split <;> rfl
      have hmove := (Move.window (s := s) _ (.openFace f.frame ⟨q, side⟩ (Nat.not_le.mp hroom))).moves
      rw [← hwindow] at hmove
      exact hmove

theorem finalFuse_moves (q : Seq) (s : State) : Moves s (finalFuse q s) :=
  Tracking.Kept.moves (Tracking.Kept.trans ⟨rfl, rfl⟩ (Tracking.decide_kept { s.track with divertLoop := false } q))

theorem leadingAction_moves (r : Record) (v : Nat) (s : State) : Moves s (leadingAction r v s) := by
  unfold leadingAction
  split
  · exact (s.track.modify_kept r.seq _ (by intro; rfl)).moves
  · exact openFor_moves _ _ _ s
  · exact finalFuse_moves _ s
  · exact Tracking.Kept.moves ⟨rfl, rfl⟩
  · exact openFor_moves _ _ _ s
  · exact finalFuse_moves _ s
  · exact .refl

/-- The tracking table once a head has matched, before the visit's action (R127, R129). -/
def matched (sn : Sensor) (rest : List Arrival) (r : Record) (stamp : PathCount) (u : Setup) (t : Tracking) : Tracking :=
  let q := r.seq
  let next := visitAfter r.copy.order.sides (r.nextVisit.getD 0)
  let o : Occupancy := ⟨q, r.nextVisit.getD 0, stamp, r.launchCount, r.copy.order.length⟩
  let t1 := Tracking.withdraw .windowClose q (t.putQueue sn rest)
  let t2 := if (t1.occupancies o).isEmpty then t1.setDeadline ⟨u.stuckDeadline stamp o.length, .stuck, sn, q⟩ else t1
  let t3 := Tracking.modify q (fun x => { x with leadStamp := some stamp, nextVisit := next }) (t2.putOccupant sn (some o))
  match next with
  | some n => t3.await u q r.launchCount r.copy.order.sides n
  | none => t3

theorem matchHead_eq (sn : Sensor) (rest : List Arrival) (r : Record) (stamp : PathCount) (s : State) :
    matchHead sn rest r stamp s =
      leadingAction r (r.nextVisit.getD 0) { s with track := matched sn rest r stamp s.setup s.track } := rfl

theorem matched_kept (sn : Sensor) (rest : List Arrival) (r : Record) (stamp : PathCount) (u : Setup) (t : Tracking) :
    t.Kept (matched sn rest r stamp u t) := by
  have hfront (x : Tracking) (o : Occupancy) (d : Deadline) (c : Prop) [Decidable c] (g : Record → Record)
      (hg : ∀ r, (g r).copy = r.copy) :
      x.Kept (((if c then x.setDeadline d else x).putOccupant sn (some o)).modify r.seq g) := by
    refine Tracking.Kept.trans ?_ (Tracking.modify_kept _ _ g hg)
    split <;> exact ⟨rfl, rfl⟩
  have hbase : t.Kept (Tracking.withdraw .windowClose r.seq (t.putQueue sn rest)) := ⟨rfl, rfl⟩
  unfold matched
  dsimp only
  split
  · refine Tracking.Kept.trans ?_ (Tracking.await_kept _ _ _ _ _ _)
    exact hbase.trans (hfront _ _ _ _ _ (by intro; rfl))
  · exact hbase.trans (hfront _ _ _ _ _ (by intro; rfl))

theorem matchHead_moves (sn : Sensor) (rest : List Arrival) (r : Record) (stamp : PathCount) (s : State) :
    Moves s (matchHead sn rest r stamp s) := by
  rw [matchHead_eq]
  exact (matched_kept sn rest r stamp s.setup s.track).moves.trans (leadingAction_moves _ _ _)

theorem takeLeading_moves (sn : Sensor) (stamp : PathCount) (s : State) : Moves s (takeLeading sn stamp s) := by
  unfold takeLeading
  split
  · exact jam_moves _ _ _ _ s
  · split
    · exact jam_moves _ _ _ _ s
    · split
      · exact matchHead_moves _ _ _ _ s
      · exact Tracking.Kept.moves ⟨rfl, rfl⟩

/-- A record leaves the path, with its order copy entering the reprint list or not (R143, R144). -/
theorem leavePath_moves {s : State} {r : Record} (hmem : r ∈ s.track.table) {l : List OrderCopy}
    (hl : l.length ≤ s.reprint.length + 1) : Moves s { s.leavePath r.seq with reprint := l } := by
  have hgate : s.track.Kept (s.track.leaveGate r.seq) := by
    refine ⟨by rw [Tracking.leaveGate_table], ?_⟩
    unfold Tracking.leaveGate
    dsimp only
    split
    · rw [Tracking.showHead_frame]
    · rfl
  have hclosed := (hgate.moves.tail (.window _ (.close fun x => x.seq != r.seq))).tail (.remove r l (by simpa using hmem) hl)
  exact hclosed

theorem deliver_moves {s : State} {r : Record} (hmem : r ∈ s.track.table) (stack : Stack) (stamp : PathCount) :
    Moves s (deliver r stack stamp s) := by
  have hdel : Moves s { s with
      track := { s.track with dDel := r.seq + 1 }, latch := { s.latch with recordValid := true, recordSeq := r.seq } } :=
    (Move.deliver r.seq).moves
  have hleave := hdel.trans (leavePath_moves (s := { s with
      track := { s.track with dDel := r.seq + 1 }, latch := { s.latch with recordValid := true, recordSeq := r.seq } })
    hmem (l := s.reprint) (Nat.le_succ _))
  exact ((hleave.trans (raiseAt_moves _ _ _)).trans (release_moves _ _)).trans (drainDone_moves _)

theorem divert_moves {s : State} {r : Record} (hmem : r ∈ s.track.table) (stamp : PathCount) :
    Moves s (divert r stamp s) := by
  have hleave := leavePath_moves hmem (l := insertCopy r.copy s.reprint) (Nat.le_of_eq (length_insertCopy _ _))
  exact ((hleave.trans (idleReset_moves (s.reprint.isEmpty = true) _)).trans (raiseAt_moves _ _ _)).trans (drainDone_moves _)

theorem exitTrailing_moves {s : State} {r : Record} (hmem : r ∈ s.track.table) (stamp : PathCount) :
    Moves s (exitTrailing r stamp s) := by
  unfold exitTrailing
  split
  · exact deliver_moves hmem _ stamp
  · exact divert_moves hmem stamp
  · exact divert_moves hmem stamp
  · exact divert_moves hmem stamp

theorem measureSheet_moves (r : Record) (o : Occupancy) (stamp : PathCount) (s : State) :
    Moves s (measureSheet r o stamp s) := by
  have hmeasure : Moves s (s.onTrack (Tracking.modify r.seq fun x => { x with measured := some (stamp - o.stamp).toNat })) :=
    (s.track.modify_kept r.seq _ (by intro; rfl)).moves
  unfold measureSheet
  dsimp only
  split
  · exact hmeasure.trans (spoil_moves _ _ _)
  · exact hmeasure

/-- Freeing calendar slots leaves only faces that stood there (R106). -/
theorem freed_subset {c : Vector (Option Face) 64} (p : Option Face → Prop) [DecidablePred p] {face : Face}
    (h : some face ∈ (c.map fun x => if p x then none else x).toList) : some face ∈ c.toList ∧ ¬ p (some face) := by
  simp only [Vector.toList_map, List.mem_map] at h
  obtain ⟨x, hx, hxface⟩ := h
  split at hxface
  · cases hxface
  next hp => exact ⟨hxface ▸ hx, hxface ▸ hp⟩

theorem transferDone_moves (r : Record) (side : Side) (s : State) : Moves s (transferDone r side s) :=
  (Move.window (s := s) _ (.close (· != ⟨r.seq, side⟩))).moves.tail
    (.schedule _ fun _ h => (freed_subset (· = some ⟨r.seq, side⟩) h).1)

theorem trailingAction_moves {s : State} {r : Record} (hmem : r ∈ s.track.table) (sn : Sensor) (o : Occupancy)
    (stamp : PathCount) : Moves s (trailingAction sn r o stamp s) := by
  cases sn with
  | feed => exact measureSheet_moves r o stamp s
  | xfer => exact transferDone_moves r _ s
  | exit => exact exitTrailing_moves hmem stamp
  | reg => exact .refl
  | fuse => exact .refl
  | loop => exact .refl

/-- The record of an occupancy is in the table. -/
theorem Tracking.mem_of_recordOf {t : Tracking} {o : Occupancy} {r : Record} (h : t.recordOf o = some r) :
    t.find o.seq = some r ∧ r.launchCount = o.launch := by
  simpa [Tracking.recordOf, Option.filter_eq_some_iff] using h

theorem takeTrailing_moves (sn : Sensor) (stamp : PathCount) (s : State) : Moves s (takeTrailing sn stamp s) := by
  unfold takeTrailing
  split
  · exact jam_moves _ _ _ _ s
  next o ho =>
    have hkept : s.track.Kept ((s.track.putOccupant sn none).moveStuck s.setup sn o) :=
      Tracking.Kept.trans ⟨rfl, rfl⟩ (Tracking.moveStuck_kept _ _ _ _)
    dsimp only
    split
    next r hr =>
      have hmem : r ∈ ((s.track.putOccupant sn none).moveStuck s.setup sn o).table := by
        rw [Tracking.moveStuck_frame]
        exact Tracking.mem_of_find (Tracking.mem_of_recordOf hr).1
      exact hkept.moves.trans (trailingAction_moves hmem sn o stamp)
    next => exact hkept.moves

theorem stalled_moves (v : Vector Bool 4) (s : State) : Moves s { s with launch := { s.launch with stalled := v } } :=
  (Move.schedule { s.launch with stalled := v } fun _ h => h).moves

/-- A misfeed's record leaves the table, its copy entering the reprint list (R118, R119). -/
theorem misfeed_moves {s : State} {r : Record} (hmem : r ∈ s.track.table) (value : PathCount) :
    Moves s (misfeed r value s) := by
  have hleave (c : OrderCopy) : Moves s (((s.onTrack fun t =>
      (t.putQueue .feed ((t.queueAt .feed).filter fun a => a.seq != r.seq)).remove r.seq).freeSheet r.seq).toReprint c) :=
    ((Move.track (s := s) (s.track.putQueue .feed ((s.track.queueAt .feed).filter fun a => a.seq != r.seq)) rfl rfl).moves.tail
      (.remove r (insertCopy c s.reprint) hmem (Nat.le_of_eq (length_insertCopy _ _)))).trans
        (idleReset_moves (s.reprint.isEmpty = true) _)
  unfold misfeed
  dsimp only
  split
  · exact ((hleave _).trans (raiseAt_moves _ _ _)).trans (drainDone_moves _)
  · refine Steps.trans ?_ (drainDone_moves _)
    refine Steps.trans ?_ (raise_moves _ _)
    exact ((hleave _).trans (raiseAt_moves _ _ _)).trans (stalled_moves _ _)

theorem takeExpiry_moves (d : Deadline) (s : State) : Moves s (takeExpiry d s) := by
  have herase : Moves s (s.onTrack fun t => { t with deadlines := t.deadlines.erase d }) := Tracking.Kept.moves ⟨rfl, rfl⟩
  unfold takeExpiry
  dsimp only
  split
  · split
    · exact herase.trans (jam_moves _ _ _ _ _)
    · split
      · split
        next r hr =>
          refine herase.trans (misfeed_moves ?_ _)
          exact Tracking.mem_of_find hr
        next => exact herase
      · exact herase.trans (jam_moves _ _ _ _ _)
  · exact herase

theorem takeEdge_moves (e : Edge) (s : State) : Moves s (takeEdge e s) := by
  have herase : Moves s { s with clock := { s.clock with edges := s.clock.edges.erase e } } := (Move.clock _).moves
  unfold takeEdge
  dsimp only
  split
  · split
    · exact herase.trans (takeLeading_moves _ _ _)
    · exact herase.trans (takeTrailing_moves _ _ _)
  · exact herase

/-! ### Launches -/

theorem age_moves (n : PitchNo) (s : State) : Moves s { s with launch := s.launch.age n } := by
  refine (Move.schedule _ fun face h => ?_).moves
  unfold Launch.age at h
  split at h
  · split at h <;> exact h
  · exact h

/-- A reserved calendar slot holds its face (R105). -/
theorem Launch.mem_reserve {l : Launch} {m : PitchNo} {face x : Face} (h : some x ∈ (l.reserve m face).calendar.toList) :
    some x ∈ l.calendar.toList ∨ x = face := by
  have harray : some x ∈ l.calendar.toArray.setIfInBounds (calendarIndex m) (some face) := Array.mem_toList_iff.mp h
  rcases Array.mem_or_eq_of_mem_setIfInBounds harray with h | h
  · exact .inl (Array.mem_toList_iff.mpr h)
  · exact .inr (Option.some.inj h)

/-- The faces of a launched record are the only ones that join the calendar (R105). -/
theorem Launch.mem_reserveFor {l : Launch} {r : Record} {x : Face} (h : some x ∈ (l.reserveFor r).calendar.toList) :
    some x ∈ l.calendar.toList ∨ x.seq = r.seq := by
  unfold Launch.reserveFor at h
  dsimp only at h
  split at h
  · rcases Launch.mem_reserve h with h | rfl
    · exact (Launch.mem_reserve h).imp_right fun hx => by rw [hx]
    · exact .inr rfl
  · exact (Launch.mem_reserve h).imp_right fun hx => by rw [hx]

/-- Where the candidate stands: it is the head of the reprint list, or of the pending queue with an empty reprint list (R109). -/
theorem State.candidate_cases {s : State} {c : Candidate} (h : s.candidate = some c) :
    (∃ x xs, s.reprint = x :: xs ∧ c = .reprint x) ∨
    (s.reprint = [] ∧ ∃ k ks, s.orders.queue = k :: ks ∧ c = .pending k (s.orders.orderAt k) ∧
      s.track.table.any Record.diverted = false) := by
  unfold State.candidate at h
  split at h
  next x xs hx => exact .inl ⟨x, xs, hx, (Option.some.inj h).symm⟩
  next hempty =>
    split at h
    next k ks hk =>
      split at h
      · cases h
      next hd => exact .inr ⟨hempty, k, ks, hk, (Option.some.inj h).symm, by simpa using hd⟩
    · cases h

/-- The head of the pending queue leaves it, and its slot is EMPTY (R62). -/
theorem takeHead_move {o : Orders} {k : Nat} {ks : List Nat} (h : o.queue = k :: ks) (p : SetPosition) :
    Orders.Move o { o.empty k with queue := o.queue.tail, launched := p } := by
  refine .leave _ k ks h (by simp [h]) fun j => ?_
  exact (congrArg Slot.pending (Orders.slot_empty o k j)).trans (by split <;> rfl)

/-- The launch of the candidate, in RUNNING with room in the table (R114). -/
theorem launch_moves {s : State} {c : Candidate} (hc : s.candidate = some c) (hpath : s.seqr.path = .running)
    (hroom : s.track.table.length < 16) (n : PitchNo) (count : PathCount) : Moves s (launch c n count s) := by
  have hlaunch (t : State) (hp : t.seqr.path = .running) (hr : t.track.table.length < 16) (e : Option PitchNo)
      (d : Option Stack) (u : Setup) (o : Order) (l : List OrderCopy) (hl : l = t.reprint.tail) :
      Moves t { t with
        track := Tracking.await u o.seq count o.sides 1
          { t.track with table := t.track.table ++ [newRecord u n count c.copy] }
        launch := { t.launch.reserveFor (newRecord u n count c.copy) with lastExit := e, lastDest := d }
        reprint := l
        seqr := if t.track.table.isEmpty then { t.seqr with idleCtr := 0 } else t.seqr } := by
    subst hl
    exact ((idleReset_moves (t.track.table.isEmpty = true) t).tail
      (.launch (newRecord u n count c.copy)
        { t.launch.reserveFor (newRecord u n count c.copy) with lastExit := e, lastDest := d }
        (by dsimp only; split <;> exact hp) (fun _ => hr) fun _ h => Launch.mem_reserveFor h)).trans
      (Tracking.await_kept u o.seq count o.sides 1 _).moves
  rcases State.candidate_cases hc with ⟨x, xs, hx, rfl⟩ | ⟨hempty, k, ks, hk, rfl, -⟩
  · exact hlaunch s hpath hroom _ _ _ _ _ rfl
  · refine (Move.orders (s := s) _ (takeHead_move hk (positionAfter (s.orders.orderAt k)))).moves.trans ?_
    exact hlaunch (s.takeCandidate (.pending k (s.orders.orderAt k))) hpath hroom _ _ _ _ s.reprint
      (by simp only [State.takeCandidate, hempty, List.tail_nil])

theorem takePitchTick_moves (p : PitchTick) (s : State) : Moves s (takePitchTick p s) := by
  have hbase : Moves s { s with clock := { s.clock with tick := none }, launch := s.launch.age p.number } :=
    (age_moves p.number s).tail (.clock { s.clock with tick := none })
  unfold takePitchTick
  dsimp only
  split
  next hpath =>
    have hseen := hbase.tail (.seqr { s.seqr with motionSeen := true } (by constructor <;> simp +contextual [hpath]))
    split
    · exact hseen.trans (enterRunning_moves hpath)
    · exact hseen
  next hpath =>
    split
    · refine hbase.trans ?_
      unfold launchOpportunity
      split
      next c hc =>
        split
        next htest =>
          refine launch_moves hc hpath ?_ _ _
          simp only [launchTest, Bool.and_eq_true, decide_eq_true_eq] at htest
          exact htest.1.1.1.1.1.1
        next => exact .refl
      next => exact .refl
    · exact hbase
  next => exact hbase

end Sys2Proof.Machine

/-! # Proofs: every command as a sequence of changes -/

namespace Sys2Proof.Machine

/-! ## The bus passage's writes and reads -/

/-- A staging slot's number is below 32 (R3, R50). -/
theorem State.slot_lt_of_region {s : State} {l : LineNo} {k : Nat} (h : s.region l = .staging k) : k < 32 := by
  unfold State.region Setup.region unconfiguredRegion at h
  split at h
  · dsimp only at h
    split at h
    · cases h
    split at h
    · cases h
    split at h
    next hstaging =>
      cases h
      omega
    split at h
    · cases h
    split at h <;> cases h
  · split at h <;> cases h

theorem verdict_moves (w : WriteReq) (s : State) : Moves s (verdict w s).2 := by
  unfold verdict
  split
  next k hregion => exact stagingWrite_moves (State.slot_lt_of_region hregion) w s
  next => exact frameWrite_moves _ w s
  all_goals exact .refl

/-- What the owner of a write's line does when the write is taken: moves, or, while UNCONFIGURED, the setup latch's own
acceptance (R2, R4, R16). -/
def OwnerTakes (w : WriteReq) (s t : State) : Prop :=
  Moves s t ∨ ∃ k, t = (setupWrite k w.enables w.data s).2

/-- The latch's acceptance leaves the bus passage as it is. -/
theorem setupWrite_bus (k : Nat) (en : Enables) (data : Line) (s : State) : (setupWrite k en data s).2.bus = s.bus := by
  unfold setupWrite
  dsimp only
  split
  · split <;> rfl
  · rfl

theorem OwnerTakes.bus_eq {w : WriteReq} {s t : State} (h : OwnerTakes w s t) : t.bus = s.bus := by
  rcases h with h | ⟨k, rfl⟩
  · exact h.bus_eq
  · exact setupWrite_bus k _ _ s

/-- What taking a write comes to: the owner's part, and the answer to the master; a queueing write that is accepted joins the
write queue (R4, R5, R7). -/
theorem takeWrite_spec (w : WriteReq) (s : State) : ∃ t, OwnerTakes w s t ∧
    ((∃ a, takeWrite w s = { t with bus := s.bus.setPort w.master (.answered a) }) ∨
      (s.queueing w = true ∧
        takeWrite w s = { t with bus := (s.bus.accept w).setPort w.master (.answered .completion) })) := by
  have hanswer {t : State} (ht : OwnerTakes w s t) (a : Answer) :
      t.answer w.master a = { t with bus := s.bus.setPort w.master (.answered a) } := by
    rw [State.answer, ht.bus_eq]
  have hsetup (k : Nat) : OwnerTakes w s (setupWrite k w.enables w.data s).2 := .inr ⟨k, rfl⟩
  have hqueueing (hq : s.queueing w = true) : ∃ t, OwnerTakes w s t ∧
      ((∃ a, takeQueueing w s = { t with bus := s.bus.setPort w.master (.answered a) }) ∨ (s.queueing w = true ∧
        takeQueueing w s = { t with bus := (s.bus.accept w).setPort w.master (.answered .completion) })) := by
    have howner : OwnerTakes w s (verdict w s).2 := .inl (verdict_moves w s)
    refine ⟨_, howner, ?_⟩
    unfold takeQueueing
    split
    next t ht =>
      rw [ht] at howner
      have hbus : t.bus = s.bus := howner.bus_eq
      exact .inr ⟨hq, by simp only [ht, State.answer, State.onBus, hbus]⟩
    next t ht =>
      rw [ht] at howner
      exact .inl ⟨.abort, by rw [hanswer howner, ht]⟩
  unfold takeWrite
  split
  next hm => exact ⟨_, .inl (guardAbort_moves _ _ s), .inl ⟨.abort, hanswer (.inl (guardAbort_moves _ _ s)) _⟩⟩
  next hm =>
    split
    next => exact ⟨_, .inl (rangeFault_moves _ _ s), .inl ⟨.abort, hanswer (.inl (rangeFault_moves _ _ s)) _⟩⟩
    next => exact ⟨_, .inl (mirrorWrite_moves _ _ _ s), .inl ⟨.completion, hanswer (.inl (mirrorWrite_moves _ _ _ s)) _⟩⟩
    next k hregion =>
      split
      next harmed => exact hqueueing (by simp [State.queueing, hregion, hm, harmed])
      next => exact ⟨_, hsetup k, .inl ⟨_, hanswer (hsetup k) _⟩⟩
    next hregion => exact hqueueing (by simp [State.queueing, hregion, hm])
    next hregion => exact hqueueing (by simp [State.queueing, hregion, hm])
    next hregion => exact hqueueing (by simp [State.queueing, hregion, hm])

/-- What presenting a read comes to: it is answered, or it passes and holds its master (R5, R9). -/
theorem presentRead_spec (r : ReadReq) (s : State) : ∃ t n, Moves s t ∧
    ((∃ a, presentRead r s = { t with bus := s.bus.setPort r.master (.answered a), freeCount := n }) ∨
      ∃ f, presentRead r s = passRead r f s) := by
  have hread (f : Nat → Byte) : ∃ t n, Moves s t ∧
      ((∃ a, s.answerRead r f = { t with bus := s.bus.setPort r.master (.answered a), freeCount := n }) ∨
        ∃ g, s.answerRead r f = passRead r g s) := ⟨s, s.freeCount + 1, .refl, .inl ⟨_, rfl⟩⟩
  have hpass (f : Bool) : ∃ t n, Moves s t ∧
      ((∃ a, passRead r f s = { t with bus := s.bus.setPort r.master (.answered a), freeCount := n }) ∨
        ∃ g, passRead r f s = passRead r g s) := ⟨s, s.freeCount, .refl, .inr ⟨f, rfl⟩⟩
  unfold presentRead
  split
  · exact hread _
  · split
    · exact ⟨_, s.freeCount, rangeFault_moves _ _ s, .inl ⟨_, rfl⟩⟩
    · exact hread _
    · split
      · exact hpass _
      · exact hread _
    · split
      · split
        · exact hpass _
        next n _ _ _ =>
          have hblank : Moves s (State.spoilOpen .fetch
              (State.raise (.fetchBlanked n) { s with mirror := { s.mirror with fetchFault := true } })) :=
            ((Move.flags { s.mirror with fetchFault := true } rfl rfl rfl).moves.trans (raise_moves _ _)).trans
              (spoilOpen_moves _ _)
          exact ⟨_, s.freeCount, hblank, .inl ⟨_, rfl⟩⟩
      · exact hpass _
    · exact hpass _
    · exact hpass _

/-! ## What a command can do -/

/-- A change: a move; one of the bus passage, the input levels or the free-value counter; a passed arm attempt (R20); or a hardware
reset (R22, R23). -/
inductive Change (s : State) : State → Prop where
  | move {t : State} (h : Move s t) : Change s t
  | outside (p : Pins) (b : Bus) (n : Nat) : Change s { s with pins := p, bus := b, freeCount := n }
  | arm (i : Vector Line 8) (u : Setup) (hpassed : validate u = .passed) : Change s (s.armAccept i u)
  | reset (l : Latch) (p : Pins) : Change s { s.hardReset l with pins := p }

/-- A sequence of changes. -/
abbrev Changes : State → State → Prop := Steps Change

theorem Moves.changes {s t : State} (h : Moves s t) : Changes s t :=
  Steps.mono (r := Move) (fun _ _ => Change.move) h

theorem Changes.of_bus (s : State) (b : Bus) : Changes s { s with bus := b } := .single (.outside s.pins b s.freeCount)

theorem Changes.of_pins (s : State) (g : Pins → Pins) : Changes s (s.onPins g) :=
  .single (.outside (g s.pins) s.bus s.freeCount)

theorem Moves.changes_bus {s t : State} (h : Moves s t) (b : Bus) : Changes s { t with bus := b } :=
  h.changes.trans (Changes.of_bus t b)

/-- The latch's acceptance: an arm attempt that passes, or another image or arm result (R16 to R18). -/
theorem setupWrite_changes (k : Nat) (en : Enables) (data : Line) (s : State) : Changes s (setupWrite k en data s).2 := by
  simp only [setupWrite]
  split
  · split
    next h => exact .single (.arm _ _ h)
    next => exact (Move.image s.latch.image _).moves.changes
  · exact (Move.image _ s.latch.armResult).moves.changes

theorem OwnerTakes.changes {w : WriteReq} {s t : State} (h : OwnerTakes w s t) : Changes s t := by
  rcases h with h | ⟨k, rfl⟩
  · exact h.changes
  · exact setupWrite_changes k _ _ s

theorem takeWrite_changes (w : WriteReq) (s : State) : Changes s (takeWrite w s) := by
  obtain ⟨t, howner, ⟨a, h⟩ | ⟨-, h⟩⟩ := takeWrite_spec w s <;> rw [h] <;> exact howner.changes.trans (Changes.of_bus t _)

theorem takeWaiting_changes (w : WriteReq) (s : State) : Changes s (takeWaiting w s) :=
  (Changes.of_bus s _).trans (takeWrite_changes w _)

theorem presentWrite_changes (w : WriteReq) (s : State) : Changes s (presentWrite w s) := by
  unfold presentWrite
  split
  · exact Changes.of_bus s _
  · split
    · exact takeWrite_changes w s
    · exact Changes.of_bus s _

theorem presentRead_changes (r : ReadReq) (s : State) : Changes s (presentRead r s) := by
  obtain ⟨t, n, hmoves, ⟨a, h⟩ | ⟨f, h⟩⟩ := presentRead_spec r s
  · rw [h]
    exact hmoves.changes.tail (.outside t.pins _ n)
  · rw [h]
    exact Changes.of_bus s _

/-- One happening is taken: a waiting write, or moves alone. -/
theorem take_spec (h : Happening) {s : State} (hout : s.outstanding = some h) :
    (∃ w, h = .write w ∧ s.takeable (fun _ => true) = some w) ∨ (s.takeable (fun _ => true) = none ∧ Moves s (take h s)) := by
  unfold State.outstanding at hout
  split at hout
  next w hw =>
    cases hout
    exact .inl ⟨w, rfl, hw⟩
  next hnone =>
    refine .inr ⟨hnone, ?_⟩
    split at hout
    · cases hout; exact takeEdge_moves _ s
    split at hout
    · cases hout; exact takeExpiry_moves _ s
    split at hout
    · cases hout; exact takePitchTick_moves _ s
    split at hout
    · cases hout; exact jam_moves _ _ _ _ s
    split at hout
    · cases hout; exact jam_moves _ _ _ _ s
    split at hout
    next hidle =>
      cases hout
      simp only [State.idleExpires, Bool.and_eq_true, beq_iff_eq] at hidle
      exact enterStopped_moves (.inr rfl) (by simp [hidle.1.1]) (.inl (State.table_of_nothingToDo hidle.1.2))
    · cases hout

theorem take_changes {h : Happening} {s : State} (hout : s.outstanding = some h) : Changes s (take h s) := by
  rcases take_spec h hout with ⟨w, rfl, -⟩ | ⟨-, hmoves⟩
  · exact takeWaiting_changes w s
  · exact hmoves.changes

/-- Completing what has occurred keeps what every taking keeps. -/
theorem settle_induction {P : State → Prop} (htake : ∀ s h, s.outstanding = some h → P s → P (take h s)) {s : State}
    (hs : P s) : P s.settle := by
  have hfuel : ∀ n s, P s → P (settleFuel n s) := by
    intro n
    induction n with
    | zero => exact fun _ => id
    | succ n ih =>
      intro s hs
      unfold settleFuel
      split
      · exact hs
      next h hh => exact ih _ (htake s h hh hs)
  exact hfuel _ s hs

theorem settle_changes (s : State) : Changes s s.settle :=
  settle_induction (P := Changes s) (fun _ _ hout h => h.trans (take_changes hout)) .refl

theorem busRequest_changes {m : Master} {q : Request} {f : State → State} {s t : State} (hf : Changes s.settle (f s.settle))
    (h : busRequest m q f s = .next t) : Changes s t := by
  simp only [busRequest] at h
  split at h
  · cases h
  split at h
  · cases h
    exact (settle_changes s).trans (Changes.of_bus s.settle _)
  · cases h
    exact (settle_changes s).trans hf

theorem mirrorCommand_changes {m : Master} {f : State → State} {s t : State} (hf : ∀ u, Moves u (f u))
    (h : mirrorCommand m f s = .next t) : Changes s t := by
  have hsettle := settle_changes s
  simp only [mirrorCommand] at h
  split at h
  · cases h
  split at h
  · cases h
    exact hsettle
  split at h
  · cases h
    exact hsettle.trans ((guardAbort_moves _ _ _).changes_bus _)
  · cases h
    exact hsettle.trans ((hf _).changes_bus _)

theorem foldl_takeHeld_changes (qs : List Request) (s : State) : Changes s (qs.foldl takeHeld s) := by
  induction qs generalizing s with
  | nil => exact .refl
  | cons q qs ih =>
    cases q with
    | write w => exact (presentWrite_changes w s).trans (ih _)
    | read r => exact (presentRead_changes r s).trans (ih _)

/-- The counters at a tick (R87). -/
theorem refTick_moves (l : SensorLevels) (s : State) : Moves s (refTick l s) := by
  have hseqr : Sequencer.Move (s.track.table = []) s.seqr s.tickCounters := by
    constructor <;> simp +contextual [State.tickCounters, State.driven]
  exact (Move.clock (refTick l s).clock).moves.tail (.seqr _ hseqr)

theorem encPulse_moves (s : State) : Moves s (encPulse s) :=
  (Move.clock (encPulse s).clock).moves.tail (.seqr { s.seqr with stallCtr := 0 } (by constructor <;> simp +contextual))

/-- An expiry that a command names is taken when it is found. -/
theorem expiring_changes {s t : State} {q : Seq} {want : Deadline → Bool}
    (h : (match s.expiring q want with | some d => .next (takeExpiry d s) | none => .next s :
      Host.Outcome State Fault Refusal) = .next t) : Changes s t := by
  split at h <;> cases h
  · exact (takeExpiry_moves _ s).changes
  · exact .refl

theorem edge_changes {s t : State} {sn : Sensor} {leading : Bool}
    (h : (match s.edgeNow sn leading with | some e => .next (takeEdge e s) | none => .next s :
      Host.Outcome State Fault Refusal) = .next t) : Changes s t := by
  split at h <;> cases h
  · exact (takeEdge_moves _ s).changes
  · exact .refl

theorem takeReadError_changes (s : State) : Changes s (takeReadError s) := by
  unfold takeReadError
  split
  · dsimp only
    split
    · split
      · exact (Changes.of_bus s _).trans (spoilOpen_moves _ _).changes
      · exact Changes.of_bus s _
    · exact Changes.of_bus s _
  · exact Changes.of_bus s _
  · exact .refl
  · exact .refl

theorem takeWriteError_changes (s : State) : Changes s (takeWriteError s) := by
  unfold takeWriteError
  split
  · refine (Changes.of_bus s s.bus.freePort).trans (Moves.changes ?_)
    exact (Move.flags (s := s.onBus Bus.freePort) { s.mirror with memoryFault := true } rfl rfl rfl).moves.trans (raise_moves _ _)
  · exact Changes.of_bus s _
  · exact .refl
  · exact .refl

/-- Every command is a sequence of changes. -/
theorem exec_changes (c : Instr) {s t : State} (h : exec c s = .next t) : Changes s t := by
  have hsettle := settle_changes s
  cases c with
  | powerOnReset level => cases h; exact .single (.reset _ _)
  | powerLoss => cases h; exact .single (.reset _ _)
  | lineReset =>
    simp only [exec, execLineReset] at h
    split at h <;> cases h
    · exact hsettle
    · exact hsettle.tail (.reset _ _)
  | resetPeriodEnd =>
    simp only [exec, execResetPeriodEnd] at h
    split at h <;> cases h
    · exact (hsettle.tail (.outside _ _ s.settle.freeCount)).trans (foldl_takeHeld_changes _ _)
    · exact hsettle
  | busWrite w => exact busRequest_changes (presentWrite_changes w _) h
  | busRead r => exact busRequest_changes (presentRead_changes r _) h
  | setupWrite m k en d => exact busRequest_changes (presentWrite_changes (setupRequest m k en d) _) h
  | arm m en d => exact busRequest_changes (presentWrite_changes (armRequest m en d) _) h
  | waitingWriteTaken m =>
    simp only [exec, execWaitingWriteTaken] at h
    split at h <;> cases h
    · exact takeWaiting_changes _ s
    · exact .refl
  | memoryIssue =>
    cases h
    refine hsettle.trans ?_
    unfold issueNext
    split
    · exact Changes.of_bus s.settle _
    · exact .refl
  | readResponse d =>
    cases h
    refine hsettle.trans ?_
    unfold takeReadResponse
    split
    · exact Changes.of_bus s.settle _
    · exact Changes.of_bus s.settle _
    · exact .refl
    · exact .refl
  | readError => cases h; exact hsettle.trans (takeReadError_changes _)
  | writeResponse =>
    cases h
    refine hsettle.trans ?_
    unfold takeWriteResponse
    split
    · exact Changes.of_bus s.settle _
    · exact Changes.of_bus s.settle _
    · exact .refl
    · exact .refl
  | memoryFault => cases h; exact hsettle.trans (takeWriteError_changes _)
  | run m a b x => exact mirrorCommand_changes (controlWord_moves 1 a b x) h
  | drain m a b x => exact mirrorCommand_changes (controlWord_moves 2 a b x) h
  | halt m a b x => exact mirrorCommand_changes (controlWord_moves 3 a b x) h
  | resume m a b x => exact mirrorCommand_changes (controlWord_moves 4 a b x) h
  | standby m a b x => exact mirrorCommand_changes (controlWord_moves 5 a b x) h
  | cancelPending m a b x => exact mirrorCommand_changes (controlWord_moves 6 a b x) h
  | pathReset m a b x => exact mirrorCommand_changes (controlWord_moves 7 a b x) h
  | clearTrayStall m a b x => exact mirrorCommand_changes (controlWord_moves 8 a b x) h
  | releaseFrame m a b x => exact mirrorCommand_changes (controlWord_moves 9 a b x) h
  | clearStanding m a b x => exact mirrorCommand_changes (controlWord_moves 10 a b x) h
  | unknownRequest m c a b x => exact mirrorCommand_changes (controlWord_moves c a b x) h
  | eventsTaken m n rest => exact mirrorCommand_changes (eventsTakenWord_moves n rest) h
  | clearStandingWord m b rest => exact mirrorCommand_changes (clearStandingWord_moves b rest) h
  | mirrorWriteIgnored m k en d =>
    simp only [exec, execMirrorWriteIgnored] at h
    split at h
    · simp only [mirrorEmpty] at h
      split at h
      · cases h
      split at h <;> cases h
      · exact hsettle
      · exact hsettle.trans (Changes.of_bus s.settle _)
    · exact mirrorCommand_changes (mirrorWrite_moves _ _ _) h
  | encPulse =>
    simp only [exec, execEncPulse] at h
    split at h <;> cases h
    · exact hsettle.trans (encPulse_moves _).changes
    · exact hsettle
  | pitchTick =>
    simp only [exec, execPitchTick] at h
    split at h <;> cases h
    · exact (takePitchTick_moves _ s).changes
    · exact .refl
  | tick l =>
    simp only [exec, execTick] at h
    split at h <;> cases h
    · exact hsettle.trans (refTick_moves l _).changes
    · exact hsettle
  | leadingEdge sn => exact edge_changes h
  | trailingEdge sn => exact edge_changes h
  | startFail =>
    simp only [exec, execStartFail] at h
    split at h <;> cases h
    · exact (jam_moves _ _ _ _ s).changes
    · exact .refl
  | stall =>
    simp only [exec, execStall] at h
    split at h <;> cases h
    · exact (jam_moves _ _ _ _ s).changes
    · exact .refl
  | idleExpiry =>
    simp only [exec, execIdleExpiry] at h
    split at h <;> cases h
    next hidle =>
      simp only [State.idleExpires, Bool.and_eq_true, beq_iff_eq] at hidle
      exact (enterStopped_moves (.inr rfl) (by simp [hidle.1.1]) (.inl (State.table_of_nothingToDo hidle.1.2))).changes
    · exact .refl
  | misfeed q => exact expiring_changes h
  | late q => exact expiring_changes h
  | stuck q => exact expiring_changes h
  | coverClosedFall =>
    have hpins : Changes s (s.settle.onPins fun p => { p with coverClosed := false }) := hsettle.trans (Changes.of_pins _ _)
    simp only [exec, execCoverClosedFall] at h
    split at h <;> cases h
    · exact hpins
    · exact hpins.trans (jam_moves _ _ _ _ _).changes
  | coverClosedRise => cases h; exact hsettle.trans (Changes.of_pins _ _)
  | fuserReadyRise =>
    have hpins : Changes s (s.settle.onPins fun p => { p with fuserReady := true }) := hsettle.trans (Changes.of_pins _ _)
    simp only [exec, execFuserReadyRise] at h
    split at h <;> cases h
    next hstart => exact hpins.trans (enterRunning_moves hstart.2.1).changes
    · exact hpins
  | trayEmptyChange tray level => cases h; exact hsettle.trans (Changes.of_pins _ _)
  | stackFullChange stack level => cases h; exact hsettle.trans (Changes.of_pins _ _)
  | fuserReadyFall => cases h; exact hsettle.trans (Changes.of_pins _ _)

/-- Every change keeps the queue of waiting commands. -/
theorem Changes.pending_eq {s t : State} (h : Changes s t) : t.pending = s.pending := by
  induction h with
  | refl => rfl
  | tail _ hstep ih =>
    refine Eq.trans ?_ ih
    cases hstep with
    | move h => exact h.frame.pending
    | outside => rfl
    | arm => rfl
    | reset => rfl

/-- Settles O2: no change touches the queue of waiting commands. -/
theorem execKeepsQueue : Obligations.ExecKeepsQueue := fun c _ _ h => (exec_changes c h).pending_eq

/-- A predicate that says nothing of the waiting commands, and that every change keeps, is kept by every step. -/
theorem step_keeps {P : State → Prop} (hpending : ∀ s l, P s → P { s with pending := l })
    (hchange : ∀ s t, Change s t → P s → P t) {s t : State} (hs : P s) (h : step s = .next t) : P t := by
  have hchanges {a b : State} (hab : Changes a b) (ha : P a) : P b := by
    induction hab with
    | refl => exact ha
    | tail _ hstep ih => exact hchange _ _ hstep ih
  unfold step at h
  split at h
  · cases h
    exact hs
  · exact hchanges (exec_changes _ h) (hpending s _ hs)

end Sys2Proof.Machine

/-! # Proofs: the invariants of the blocks -/

namespace Sys2Proof.Machine

/-! ## The invariants of the blocks -/

/-! ### Frames (O7) -/

/-- A frame is BOUND exactly while its count is above 0, and the free-frame count counts the FREE frames (3.1, R47). -/
def Frames.Counted (f : Frames) : Prop :=
  (∀ n, (f.at n).state = .bound ↔ 0 < (f.at n).count) ∧ f.free = f.countFree

/-- The pace state lies by the marks (R48). -/
def Frames.Paced (u : Setup) (f : Frames) : Prop :=
  (f.free ≤ u.paceLow → f.hold = true) ∧ (u.paceHigh ≤ f.free → f.hold = false)

theorem frameInv_iff {s : State} : FrameInv s ↔
    ArmedSetup s ∧ s.frames.Counted ∧ (s.armed = true → s.frames.Paced s.setup) := by
  simp only [FrameInv, Frames.Counted, Frames.Paced, and_assoc]

/-- Replacing a frame's record changes the count of FREE frames by what the two records are. -/
theorem Frames.countFree_put (f : Frames) {n : Nat} (hn : n < 64) (r : FrameRecord) :
    (f.put n r).countFree = f.countFree - (if (f.at n).state = .free then 1 else 0) + if r.state = .free then 1 else 0 := by
  have hat : f.at n = f.table.toList[n]'(by simpa using hn) := by simp [Frames.at, hn]
  simp only [Frames.countFree, Frames.put, Vector.toList_setIfInBounds]
  rw [List.countP_set (by simpa using hn), ← hat]
  simp only [beq_iff_eq]

/-- A FREE frame is counted. -/
theorem Frames.countFree_pos {f : Frames} {n : Nat} (h : (f.at n).state = .free) : n < 64 ∧ 0 < f.countFree := by
  have hn : n < 64 := by
    refine Classical.byContradiction fun hle => ?_
    rw [Frames.at_of_le f n (by omega)] at h
    cases h
  refine ⟨hn, List.countP_pos_iff.mpr ⟨f.at n, ?_, by simp [h]⟩⟩
  simp [Frames.at, hn]

/-- The evaluation changes the pace state alone, and leaves it by the marks (R48). -/
theorem Frames.evalPace_paced {u : Setup} (hmarks : u.paceLow < u.paceHigh) (f : Frames) : (f.evalPace u).Paced u := by
  simp only [Frames.Paced, Frames.evalPace]
  refine ⟨fun h => if_pos h, fun h => ?_⟩
  rw [if_neg (by omega), if_pos h]

/-- Another record of a frame, BOUND exactly while counted, keeps the table's rules when the free-frame count follows. -/
theorem Frames.Counted.put {f : Frames} (h : f.Counted) {n : Nat} {r : FrameRecord} (hn : n < 64)
    (hbound : r.state = .bound ↔ 0 < r.count) {g : Frames} (htable : g.table = (f.put n r).table)
    (hfree : g.free = f.free - (if (f.at n).state = .free then 1 else 0) + if r.state = .free then 1 else 0) : g.Counted := by
  have hat (k : Nat) : g.at k = if k = n then r else f.at k := by
    rw [← Frames.at_put f n r hn, Frames.at, Frames.at, htable]
  refine ⟨fun k => ?_, ?_⟩
  · rw [hat]
    split
    · exact hbound
    · exact h.1 k
  · have hcount : g.countFree = (f.put n r).countFree := by rw [Frames.countFree, htable, Frames.countFree]
    rw [hfree, hcount, Frames.countFree_put f hn, h.2]

theorem Frames.Move.counted {u : Setup} {f g : Frames} (h : Frames.Move u f g) (hf : f.Counted) : g.Counted := by
  cases h with
  | record n r hfree hbound =>
    by_cases hn : n < 64
    · refine hf.put hn (hbound (hf.1 n)) rfl ?_
      by_cases hr : r.state = .free
      · have := (Frames.countFree_pos (hfree.mp hr)).2
        simp only [hr, hfree.mp hr, if_true, Frames.put_free, hf.2]
        omega
      · simp only [hr, mt hfree.mpr hr, if_false, Frames.put_free, Nat.sub_zero, Nat.add_zero]
    · rwa [Frames.put_of_le f n r (by omega)]
  | commit n toggle hfree =>
    obtain ⟨hn, -⟩ := Frames.countFree_pos hfree
    have hcount : ¬ 0 < (f.at n).count := fun hpos => by simp [(hf.1 n).mpr hpos] at hfree
    refine hf.put hn (r := (f.at n).commit toggle) ?_ rfl ?_
    · simpa [FrameRecord.commit] using hcount
    · simp [hfree, FrameRecord.commit, Frames.setFree, Frames.evalPace]
  | freeUp n hready =>
    have hn : n < 64 := by
      refine Classical.byContradiction fun hle => ?_
      rw [Frames.at_of_le f n (by omega)] at hready
      cases hready
    have hcount : ¬ 0 < (f.at n).count := fun hpos => by simp [(hf.1 n).mpr hpos] at hready
    refine hf.put hn (r := { f.at n with state := .free }) ?_ rfl ?_
    · simpa using hcount
    · simp [hready, Frames.freeUp, Frames.setFree, Frames.evalPace]

theorem Frames.Move.paced {u : Setup} {f g : Frames} (hmarks : u.paceLow < u.paceHigh) (h : Frames.Move u f g)
    (hf : f.Paced u) : g.Paced u := by
  cases h with
  | record n r hfree hbound => exact hf
  | commit n toggle hfree => exact Frames.evalPace_paced hmarks _
  | freeUp n hready => exact Frames.evalPace_paced hmarks _

/-- Of `n` values given by place, as many satisfy `p` as stand below `k`, when those below `k` do and the others do not. -/
theorem countP_ofFn_lt {α : Type} {p : α → Bool} {a b : α} (ha : p a = true) (hb : p b = false) (k n : Nat) :
    (List.ofFn fun i : Fin n => if i.val < k then a else b).countP p = min k n := by
  induction n with
  | zero => simp
  | succ n ih =>
    rw [List.ofFn_succ_last, List.countP_append]
    simp only [Fin.val_castSucc, ih, Fin.val_last, List.countP_singleton]
    by_cases h : n < k
    · rw [if_pos h, ha, if_pos rfl]
      omega
    · rw [if_neg h, hb, if_neg Bool.false_ne_true]
      omega

/-- The records of an armed frame table (R29). -/
theorem Frames.at_armed (u : Setup) (hold : Bool) (hcount : u.frameCount ≤ 64) (n : Nat) :
    (Frames.armed u hold).at n = if n < u.frameCount then ⟨.free, 0, 0, false⟩ else .absent := by
  by_cases hn : n < 64
  · simp [Frames.armed, Frames.evalPace, Frames.at, hn]
  · rw [Frames.at_of_le _ n (by omega), if_neg (by omega)]

theorem Frames.armed_counted (u : Setup) (hold : Bool) (hcount : u.frameCount ≤ 64) : (Frames.armed u hold).Counted := by
  refine ⟨fun n => ?_, ?_⟩
  · rw [Frames.at_armed u hold hcount]
    split <;> simp [FrameRecord.absent]
  · have := countP_ofFn_lt (p := fun r : FrameRecord => r.state == .free) (a := ⟨.free, 0, 0, false⟩) (b := .absent) rfl rfl
      u.frameCount 64
    have hlist : (Frames.armed u hold).table.toList =
        List.ofFn fun i : Fin 64 => if i.val < u.frameCount then ⟨.free, 0, 0, false⟩ else FrameRecord.absent := by
      simp only [Frames.armed, Frames.evalPace, Vector.toList_ofFn]
    rw [Frames.countFree, hlist, this, Nat.min_eq_left hcount]
    rfl

theorem ArmedSetup.marks {s : State} (h : ArmedSetup s) (harmed : s.armed = true) : s.setup.paceLow < s.setup.paceHigh := by
  obtain ⟨-, -, hmarks, -⟩ := validate_marks (h harmed)
  exact hmarks

/-- The reset table has no frame, and none is FREE (R29). -/
theorem Frames.reset_counted : Frames.reset.Counted := by
  refine ⟨fun n => ?_, by simp [Frames.reset, Frames.countFree, FrameRecord.absent]⟩
  have : Frames.reset.at n = .absent := by
    by_cases hn : n < 64
    · simp [Frames.reset, Frames.at, hn]
    · exact Frames.at_of_le _ n (by omega)
  simp [this, FrameRecord.absent]

theorem FrameInv.change {s t : State} (h : Change s t) (hs : FrameInv s) : FrameInv t := by
  cases h with
  | outside p b n => exact hs
  | reset l p =>
    refine frameInv_iff.mpr ⟨?_, Frames.reset_counted, ?_⟩ <;> exact fun harmed => absurd harmed Bool.false_ne_true
  | arm i u hpassed =>
    obtain ⟨-, hcount, hmarks, -⟩ := validate_marks hpassed
    exact frameInv_iff.mpr ⟨fun _ => hpassed, Frames.armed_counted u _ hcount, fun _ => Frames.evalPace_paced hmarks _⟩
  | move h =>
    cases h with
    | frames f hf =>
      obtain ⟨hsetup, hcounted, hpaced⟩ := frameInv_iff.mp hs
      exact frameInv_iff.mpr ⟨hsetup, hf.counted hcounted, fun harmed => hf.paced (hsetup.marks harmed) (hpaced harmed)⟩
    | seqr q hq =>
      have harmed := hq.armed_eq
      obtain ⟨hsetup, hcounted, hpaced⟩ := frameInv_iff.mp hs
      exact frameInv_iff.mpr ⟨fun h => hsetup (harmed ▸ h), hcounted, fun h => hpaced (harmed ▸ h)⟩
    | _ => exact hs

/-- Settles O7: each change keeps the table's rules. -/
theorem framesKept : Obligations.FramesKept :=
  fun _ _ => step_keeps (fun _ _ h => h) fun _ _ => FrameInv.change

/-! ### The imaging window list (O8) -/

/-- At most two faces are open, each frame has one entry, and no entry is without a face (3.6). -/
def Bounded (l : List WindowEntry) : Prop :=
  (l.map fun e => e.faces.length).sum ≤ 2 ∧ (l.map WindowEntry.frame).Nodup ∧ ∀ e ∈ l, e.faces ≠ []

/-- A face joins the entry of frame `n` (R40). -/
def WindowEntry.join (n : Nat) (face : Face) (e : WindowEntry) : WindowEntry :=
  if e.frame = n then { e with faces := e.faces ++ [face] } else e

@[simp] theorem WindowEntry.join_frame (n : Nat) (face : Face) (e : WindowEntry) : (e.join n face).frame = e.frame := by
  unfold WindowEntry.join
  split <;> rfl

theorem WindowEntry.join_length (n : Nat) (face : Face) (e : WindowEntry) :
    (e.join n face).faces.length = e.faces.length + if e.frame = n then 1 else 0 := by
  unfold WindowEntry.join
  split <;> simp

/-- A face joins one entry at most, since a frame has one. -/
theorem sum_join_le (n : Nat) (face : Face) {l : List WindowEntry} (h : (l.map WindowEntry.frame).Nodup) :
    (l.map fun e => (e.join n face).faces.length).sum ≤ (l.map fun e => e.faces.length).sum + 1 := by
  induction l with
  | nil => simp
  | cons e es ih =>
    obtain ⟨hnot, hrest⟩ := List.nodup_cons.mp h
    simp only [List.map_cons, List.sum_cons, WindowEntry.join_length n face e]
    by_cases he : e.frame = n
    · have hsame : (es.map fun x => (x.join n face).faces.length) = es.map fun x => x.faces.length :=
        List.map_congr_left fun x hx => by
          have hxn : x.frame ≠ n := fun hxe => hnot (he ▸ hxe ▸ List.mem_map_of_mem hx)
          rw [WindowEntry.join_length, if_neg hxn, Nat.add_zero]
      rw [hsame, if_pos he]
      omega
    · have := ih hrest
      rw [if_neg he]
      omega

theorem Frames.openFace_window (f : Frames) (n : Nat) (face : Face) :
    (f.openFace n face).window = if f.inWindow n then f.window.map (WindowEntry.join n face) else f.window ++ [⟨n, [face]⟩] := by
  unfold Frames.openFace
  split <;> rfl

/-- Opening a face while fewer than two are open keeps the bounds (R40, R41). -/
theorem Frames.openFace_bounded {f : Frames} (n : Nat) (face : Face) (hroom : f.openFaces < 2) (h : Bounded f.window) :
    Bounded (f.openFace n face).window := by
  obtain ⟨-, hnodup, hfaces⟩ := h
  rw [Frames.openFace_window]
  split
  next hin =>
    have hsum := sum_join_le n face hnodup
    refine ⟨?_, ?_, fun e he => ?_⟩
    · rw [List.map_map]
      exact Nat.le_trans hsum hroom
    · rwa [List.map_map, show WindowEntry.frame ∘ WindowEntry.join n face = WindowEntry.frame from
        funext fun e => WindowEntry.join_frame n face e]
    · obtain ⟨x, hx, rfl⟩ := List.mem_map.mp he
      have hpos := List.length_pos_iff.mpr (hfaces x hx)
      rw [← List.length_pos_iff, WindowEntry.join_length]
      omega
  next hout =>
    simp only [Frames.inWindow, List.any_eq_true, beq_iff_eq, not_exists, not_and] at hout
    refine ⟨?_, ?_, fun e he => ?_⟩
    · unfold Frames.openFaces at hroom
      simp only [List.map_append, List.map_cons, List.map_nil, List.sum_append, List.sum_cons, List.sum_nil, List.length_cons,
        List.length_nil]
      omega
    · rw [List.map_append, List.nodup_append]
      refine ⟨hnodup, by simp, ?_⟩
      simp only [List.map_cons, List.map_nil, List.mem_singleton, forall_eq]
      intro x hx hxn
      obtain ⟨e, he, rfl⟩ := List.mem_map.mp hx
      exact hout e he hxn
    · rcases List.mem_append.mp he with he | he
      · exact hfaces e he
      · rw [List.mem_singleton.mp he]
        exact List.cons_ne_nil _ _

/-- Closing faces leaves no more of them (R42). -/
theorem sum_close_le (keep : Face → Bool) (l : List WindowEntry) :
    (((l.map fun e => { e with faces := e.faces.filter keep }).filter fun e => !e.faces.isEmpty).map fun e => e.faces.length).sum ≤
      (l.map fun e => e.faces.length).sum := by
  induction l with
  | nil => exact Nat.le_refl _
  | cons e es ih =>
    have hle := List.length_filter_le keep e.faces
    simp only [List.map_cons, List.filter_cons, List.sum_cons]
    split
    · simp only [List.map_cons, List.sum_cons]
      omega
    · omega

/-- Closing faces keeps the bounds (R42). -/
theorem close_bounded (keep : Face → Bool) {l : List WindowEntry} (h : Bounded l) :
    Bounded ((l.map fun e => { e with faces := e.faces.filter keep }).filter fun e => !e.faces.isEmpty) := by
  obtain ⟨hsum, hnodup, -⟩ := h
  have hsub := List.filter_sublist (l := l.map fun e : WindowEntry => { e with faces := e.faces.filter keep })
    (p := fun e => !e.faces.isEmpty)
  refine ⟨?_, ?_, fun e he hempty => ?_⟩
  · exact Nat.le_trans (sum_close_le keep l) hsum
  · refine (hsub.map WindowEntry.frame).nodup ?_
    rwa [List.map_map]
  · simp [hempty] at he

theorem WindowInv.change {s t : State} (h : Change s t) (hs : WindowInv s) : WindowInv t := by
  have hempty : Bounded [] := ⟨Nat.zero_le _, List.nodup_nil, by simp⟩
  cases h with
  | outside p b n => exact hs
  | reset l p => exact hempty
  | arm i u hpassed => exact hempty
  | move h =>
    cases h with
    | freeze => exact hempty
    | frames f hf => cases hf <;> exact hs
    | window w hw =>
      cases hw with
      | openFace n face hroom => exact Frames.openFace_bounded n face hroom hs
      | close keep => exact close_bounded keep hs
      | clear => exact hempty
    | _ => exact hs

/-- Settles O8: each change keeps the bounds. -/
theorem windowKept : Obligations.WindowKept :=
  fun _ _ => step_keeps (fun _ _ h => h) fun _ _ => WindowInv.change

/-! ### The pending queue (O9) -/

theorem PendingInv.move {s : State} {o : Orders} (h : Orders.Move s.orders o) (hs : PendingInv s) :
    o.queue.Nodup ∧ ∀ k, k ∈ o.queue ↔ k < 32 ∧ (o.slot k).pending = true := by
  obtain ⟨hnodup, hmem⟩ := hs
  cases h with
  | keep hqueue hslots => simpa only [hqueue, hslots] using And.intro hnodup hmem
  | join k hk hempty hqueue hslots =>
    have hout : k ∉ s.orders.queue := fun h => by simp [((hmem k).mp h).2] at hempty
    refine ⟨?_, fun j => ?_⟩
    · rw [hqueue, List.nodup_append]
      exact ⟨hnodup, by simp, fun a ha b hb hab => hout (List.mem_singleton.mp hb ▸ hab ▸ ha)⟩
    · rw [hqueue, List.mem_append, List.mem_singleton, hmem, hslots]
      by_cases hj : j = k
      · simp [hj, hk]
      · simp [hj]
  | leave k rest hhead hqueue hslots =>
    rw [hhead] at hnodup
    obtain ⟨hout, hrest⟩ := List.nodup_cons.mp hnodup
    refine ⟨hqueue ▸ hrest, fun j => ?_⟩
    have := hmem j
    rw [hhead, List.mem_cons] at this
    rw [hqueue, hslots]
    by_cases hj : j = k
    · simp [hj, hout]
    · rw [if_neg hj, ← this]
      simp [hj]
  | clear hqueue hslots =>
    refine ⟨hqueue ▸ List.nodup_nil, fun j => ?_⟩
    rw [hqueue]
    refine ⟨fun h => absurd h List.not_mem_nil, fun ⟨hj, hpending⟩ => ?_⟩
    obtain ⟨hbefore, hout⟩ := hslots j hpending
    exact absurd ((hmem j).mpr ⟨hj, hbefore⟩) hout

/-- The reset order stage holds no order (R66). -/
theorem Orders.reset_pending (e : Seq) :
    (Orders.reset e).queue.Nodup ∧ ∀ k, k ∈ (Orders.reset e).queue ↔ k < 32 ∧ ((Orders.reset e).slot k).pending = true := by
  refine ⟨List.nodup_nil, fun k => ?_⟩
  by_cases hk : k < 32 <;> simp [Orders.reset, Orders.slot, hk]

theorem PendingInv.change {s t : State} (h : Change s t) (hs : PendingInv s) : PendingInv t := by
  cases h with
  | outside p b n => exact hs
  | reset l p => exact Orders.reset_pending _
  | arm i u hpassed => exact Orders.reset_pending _
  | move h =>
    cases h with
    | orders o ho => exact PendingInv.move ho hs
    | _ => exact hs

/-- Settles O9: each change keeps queue and slots together. -/
theorem pendingKept : Obligations.PendingKept :=
  fun _ _ => step_keeps (fun _ _ h => h) fun _ _ => PendingInv.change

/-! ### Path states and counters (O10) -/

theorem PathInv.seqr {s : State} {q : Sequencer} (h : Sequencer.Move (s.track.table = []) s.seqr q) (hs : PathInv s) :
    PathInv { s with seqr := q } := by
  obtain ⟨htable, hstart, hstall, hidle⟩ := hs
  refine ⟨fun hp => ?_, fun hp => ?_, fun hp => ?_, fun hp => ?_⟩
  · exact (h.sheets hp).elim id htable
  · exact (h.start hp).elim id fun hold => hold.2.trans (hstart hold.1)
  · exact (h.stall hp).elim id fun hold => hold.2.trans (hstall hold.1)
  · exact (h.idle hp).elim id fun hold => hold.2.trans (hidle hold.1)

/-- The counters' part of the invariant speaks of the sequencer alone; a table change keeps the rest when it keeps an empty table
empty where the path has no sheets. -/
theorem PathInv.of_table {s t : State} (hs : PathInv s) (hseqr : t.seqr = s.seqr)
    (htable : s.seqr.path ≠ .running ∧ s.seqr.path ≠ .draining → s.track.table = [] → t.track.table = []) : PathInv t := by
  obtain ⟨hsheets, hcounters⟩ := hs
  refine ⟨fun hp => ?_, ?_⟩
  · rw [hseqr] at hp
    exact htable hp (hsheets hp)
  · simpa only [State.driven, hseqr] using hcounters

theorem PathInv.change {s t : State} (h : Change s t) (hs : PathInv s) : PathInv t := by
  have hzero (p : PathState) : PathInv { s with seqr := .reset p, track := .reset 0 } :=
    ⟨fun _ => rfl, fun _ => rfl, fun _ => rfl, fun _ => rfl⟩
  cases h with
  | outside p b n => exact hs
  | reset l p => exact hzero _
  | arm i u hpassed => exact hzero _
  | move h =>
    cases h with
    | seqr q hq => exact hs.seqr hq
    | track t htable hdel =>
      exact hs.of_table rfl fun _ hempty => by rw [hempty] at htable; simpa using htable
    | freeze => exact hs.of_table rfl fun _ _ => rfl
    | launch r l hpath hroom hcalendar => exact hs.of_table rfl fun hp => absurd hpath hp.1
    | remove r l hmem hlength => exact hs.of_table rfl fun _ hempty => by simp [Tracking.remove, hempty]
    | _ => exact hs

/-- Settles O10: each change keeps the rules of the path states. -/
theorem pathKept : Obligations.PathKept :=
  fun _ _ => step_keeps (fun _ _ h => h) fun _ _ => PathInv.change

/-! ### Table, reprint list and calendar (O11) -/

/-- The calendar's faces stay faces of the table's sheets when each is an old one whose sheet stays. -/
theorem CalendarInv.of_subset {s t : State} (hs : CalendarInv s)
    (h : ∀ face, some face ∈ t.launch.calendar.toList →
      (some face ∈ s.launch.calendar.toList ∧ (face.seq ∈ s.track.table.map Record.seq → face.seq ∈ t.track.table.map Record.seq)) ∨
      face.seq ∈ t.track.table.map Record.seq) : CalendarInv t := by
  rintro c hc face rfl
  rcases h face hc with ⟨hold, hkept⟩ | hnew
  · obtain ⟨r, hr, hseq⟩ := hs _ hold face rfl
    obtain ⟨r', hr', hseq'⟩ := List.mem_map.mp (hkept (List.mem_map.mpr ⟨r, hr, hseq⟩))
    exact ⟨r', hr', hseq'⟩
  · obtain ⟨r, hr, hseq⟩ := List.mem_map.mp hnew
    exact ⟨r, hr, hseq⟩

/-- An empty calendar holds no face. -/
theorem CalendarInv.of_empty {s : State} (h : s.launch.calendar = Vector.replicate 64 none) : CalendarInv s := by
  rintro c hc face rfl
  simp [h] at hc

/-- A freeze moves as many orders into the reprint list as the table held (R154). -/
theorem length_foldl_insertCopy (l : List Record) (p : List OrderCopy) :
    (l.foldl (fun acc r => insertCopy r.copy acc) p).length = l.length + p.length := by
  induction l generalizing p with
  | nil => simp
  | cons r rs ih =>
    rw [List.foldl_cons, ih, length_insertCopy, List.length_cons]
    omega

theorem sheets_change {s t : State} (h : Change s t) (hs : TableRoomInv s ∧ CalendarInv s) : TableRoomInv t ∧ CalendarInv t := by
  obtain ⟨hroom, hcalendar⟩ := hs
  unfold TableRoomInv at hroom
  have hnone (u : State) (htable : u.track.table = []) (hreprint : u.reprint = [])
      (hcal : u.launch.calendar = Vector.replicate 64 none) : TableRoomInv u ∧ CalendarInv u :=
    ⟨by simp [TableRoomInv, htable, hreprint], .of_empty hcal⟩
  cases h with
  | outside p b n => exact ⟨hroom, hcalendar⟩
  | reset l p => exact hnone _ rfl rfl rfl
  | arm i u hpassed => exact hnone _ rfl rfl rfl
  | move h =>
    cases h with
    | track t htable hdel =>
      have hlength := congrArg List.length htable
      simp only [List.length_map] at hlength
      exact ⟨by simp only [TableRoomInv, hlength, hroom], hcalendar.of_subset fun _ h => .inl ⟨h, htable ▸ id⟩⟩
    | schedule l hl => exact ⟨hroom, hcalendar.of_subset fun _ h => .inl ⟨hl _ h, id⟩⟩
    | reprint l hl => exact ⟨by simp only [TableRoomInv]; omega, hcalendar⟩
    | freeze =>
      refine ⟨?_, .of_empty rfl⟩
      simpa only [TableRoomInv, State.freeze, Tracking.frozen, length_foldl_insertCopy, List.length_nil, Nat.zero_add]
    | launch r l hpath hempty hl =>
      refine ⟨?_, hcalendar.of_subset fun face h => ?_⟩
      · simp only [TableRoomInv, List.length_append, List.length_singleton, List.length_tail]
        by_cases hr : s.reprint = []
        · have := hempty hr
          simp only [hr, List.length_nil]
          omega
        · have := List.length_pos_iff.mpr hr
          omega
      · rcases hl face h with hold | hnew
        · exact .inl ⟨hold, fun h => by simp [h]⟩
        · exact .inr (by simp [hnew])
    | remove r l hmem hl =>
      refine ⟨?_, hcalendar.of_subset fun face h => .inl ?_⟩
      · have hlt : (s.track.remove r.seq).table.length < s.track.table.length := by
          simp only [Tracking.remove, List.length_filter_lt_length_iff_exists]
          exact ⟨r, hmem, by simp⟩
        simp only [TableRoomInv]
        omega
      · obtain ⟨hold, hother⟩ := freed_subset (fun c => c.map Face.seq = some r.seq) h
        refine ⟨hold, fun hin => ?_⟩
        obtain ⟨x, hx, hseq⟩ := List.mem_map.mp hin
        refine List.mem_map.mpr ⟨x, List.mem_filter.mpr ⟨hx, ?_⟩, hseq⟩
        rw [bne_iff_ne]
        exact fun hxr => hother (by simp [← hseq, hxr])
    | _ => exact ⟨hroom, hcalendar⟩

/-- Settles O11: each change keeps both. -/
theorem sheetsKept : Obligations.SheetsKept := fun _ _ hroom hcalendar =>
  step_keeps (P := fun s => TableRoomInv s ∧ CalendarInv s) (fun _ _ h => h) (fun _ _ => sheets_change) ⟨hroom, hcalendar⟩

/-! ### The event ring (O12) -/

/-- The ring's invariant is of its positions, head and count. -/
def Mirror.Ring (m : Mirror) : Prop :=
  m.head < 32 ∧ m.count ≤ 32 ∧
  ∀ i, i < 32 → ((m.events[(m.head + i) % 32]?.join).isSome = true ↔ i < m.count)

theorem Mirror.Ring.push {m : Mirror} (h : m.Ring) (r : EventRecord) : (m.push r).Ring := by
  obtain ⟨hhead, hcount, hheld⟩ := h
  rcases Mirror.push_cases r m with ⟨hlt, hpush⟩ | ⟨-, hpush⟩ <;> rw [hpush]
  · refine ⟨hhead, hlt, fun i hi => ?_⟩
    dsimp only
    rw [Vector.getElem?_setIfInBounds]
    by_cases hpos : i = m.count
    · subst hpos
      rw [if_pos rfl, if_pos (Nat.mod_lt _ (by decide))]
      simp
    · rw [if_neg (by omega), hheld i hi]
      omega
  · exact ⟨hhead, hcount, hheld⟩

theorem Mirror.Ring.take {m : Mirror} (h : m.Ring) (n : Nat) : (m.take n).Ring := by
  obtain ⟨hhead, hcount, hheld⟩ := h
  have hnew : (m.take n).head = (m.head + min n m.count) % 32 := rfl
  have hleft : (m.take n).count = m.count - min n m.count := rfl
  refine ⟨Nat.mod_lt _ (by decide), by omega, fun i hi => ?_⟩
  have hshift : ((m.take n).head + i) % 32 = (m.head + (min n m.count + i) % 32) % 32 := by rw [hnew]; omega
  have hj : (min n m.count + i) % 32 < 32 := Nat.mod_lt _ (by decide)
  rw [hshift, Mirror.take_position hcount n hj, hleft]
  split
  · simp only [Option.join_some, Option.isSome_none, Bool.false_eq_true, false_iff]
    omega
  · rw [hheld _ hj]
    omega

theorem EventRingInv.change {s t : State} (h : Change s t) (hs : EventRingInv s) : EventRingInv t := by
  cases h with
  | outside p b n => exact hs
  | reset l p =>
    refine ⟨Nat.zero_lt_succ _, Nat.zero_le _, fun i hi => ?_⟩
    have hpos : (0 + i) % 32 < 32 := Nat.mod_lt _ (by decide)
    have hnone : (Mirror.reset.events[(0 + i) % 32]?) = some none := by
      simp only [Mirror.reset, Vector.getElem?_replicate, if_pos hpos]
    change ((Mirror.reset.events[(0 + i) % 32]?).join).isSome = true ↔ i < 0
    rw [hnone]
    simp
  | arm i u hpassed => exact hs
  | move h =>
    cases h with
    | report r => exact Mirror.Ring.push hs r
    | takeEvents n => exact Mirror.Ring.take hs n
    | flags m hevents hhead hcount =>
      have hring : s.mirror.Ring := hs
      have : m.Ring := by simpa only [Mirror.Ring, hevents, hhead, hcount] using hring
      exact this
    | _ => exact hs

/-- Settles O12: each change keeps the ring. -/
theorem eventRingKept : Obligations.EventRingKept :=
  fun _ _ => step_keeps (fun _ _ h => h) fun _ _ => EventRingInv.change

/-! ### The delivery record (O13) -/

theorem DeliveryInv.change {s t : State} (h : Change s t) (hs : DeliveryInv s) : DeliveryInv t := by
  cases h with
  | outside p b n => exact hs
  | reset l p => exact fun harmed => absurd harmed Bool.false_ne_true
  | arm i u hpassed => exact fun _ hvalid => if_pos hvalid
  | move h =>
    cases h with
    | seqr q hq => exact fun harmed => hs (hq.armed_eq ▸ harmed)
    | track t htable hdel => exact fun harmed hvalid => hdel.trans (hs harmed hvalid)
    | deliver q => exact fun _ _ => rfl
    | _ => exact hs

/-- Settles O13: each change keeps D_del one past the record. -/
theorem deliveryKept : Obligations.DeliveryKept :=
  fun _ _ => step_keeps (fun _ _ h => h) fun _ _ => DeliveryInv.change

end Sys2Proof.Machine

/-! # Proofs: the invariants of the bus passage -/

namespace Sys2Proof.Machine

/-! ## The bus passage's invariants -/

/-- The master that presented a request. -/
def Request.asker : Request → Master
  | .write w => w.master
  | .read r => r.master

/-- What a command does to the bus passage of the state `u`. -/
inductive Passage (u t : State) : Prop where
  /-- The passage stays. -/
  | same (h : t.bus = u.bus)
  /-- A hardware reset (R15). -/
  | reset (h : t.bus = .reset u.bus.port.afterReset)
  /-- A master that is not held is answered (R5). -/
  | answered (m : Master) (a : Answer) (hfree : u.busHeld m = false) (h : t.bus = u.bus.setPort m (.answered a))
  /-- A request is held through a reset period (R24). -/
  | held (q : Request) (m : Master) (hm : q.asker = m) (hfree : u.busHeld m = false)
      (h : t.bus = { u.bus with heldRequests := u.bus.heldRequests ++ [q] }.setPort m .held)
  /-- A write is presented (R1). -/
  | write (w : WriteReq) (hfree : u.busHeld w.master = false) (h : t = presentWrite w u)
  /-- A read is presented (R1). -/
  | read (r : ReadReq) (hfree : u.busHeld r.master = false) (h : t = presentRead r u)
  /-- A waiting write is taken (R8). -/
  | taken (w : WriteReq) (want : WriteReq → Bool) (hw : u.takeable want = some w) (h : t = takeWaiting w u)
  /-- The requests held through a reset period are presented (R24). -/
  | release (p : Pins)
      (h : t = u.bus.heldRequests.foldl takeHeld { u with pins := p, bus := { u.bus with heldRequests := [] } })
  /-- The memory port issues (R11). -/
  | issue (i : Issue) (hchoose : u.bus.choose = some i) (h : t.bus = u.bus.issue i)
  /-- The memory port becomes free (R11, R15). -/
  | freed (h : t.bus = u.bus.freePort)
  /-- The read in flight is answered (R13). -/
  | ended (m : Master) (a : Answer) (hport : u.bus.port = .read m) (h : t.bus = (u.bus.endRead m).setPort m (.answered a))

theorem busRequest_passage {m : Master} {q : Request} {f : State → State} {s t : State}
    (hm : q.asker = m) (hf : s.settle.busHeld m = false → Passage s.settle (f s.settle)) (h : busRequest m q f s = .next t) :
    Passage s.settle t := by
  simp only [busRequest] at h
  split at h
  · cases h
  next hfree =>
    split at h <;> cases h
    · exact .held q m hm (by simpa using hfree) rfl
    · exact hf (by simpa using hfree)

theorem mirrorCommand_passage {m : Master} {f : State → State} {s t : State} (hf : ∀ u, Moves u (f u))
    (h : mirrorCommand m f s = .next t) : Passage s.settle t := by
  have hanswer {u : State} (hu : Moves s.settle u) (a : Answer) (hfree : ¬ s.settle.busHeld m = true) :
      Passage s.settle (u.answer m a) := .answered m a (by simpa using hfree) (by rw [State.answer_bus, hu.bus_eq])
  simp only [mirrorCommand] at h
  split at h
  · cases h
  next hfree =>
    split at h
    · cases h
      exact .same rfl
    split at h <;> cases h
    · exact hanswer (guardAbort_moves _ _ _) _ hfree
    · exact hanswer (hf _) _ hfree

/-- The commands that leave the passage as it is after what had occurred. -/
theorem Passage.of_moves {u t : State} (h : Moves u t) : Passage u t := .same h.bus_eq

theorem expiring_passage {s t : State} {q : Seq} {want : Deadline → Bool}
    (h : (match s.expiring q want with | some d => .next (takeExpiry d s) | none => .next s :
      Host.Outcome State Fault Refusal) = .next t) : Passage s t := by
  split at h <;> cases h
  · exact .of_moves (takeExpiry_moves _ s)
  · exact .same rfl

theorem edge_passage {s t : State} {sn : Sensor} {leading : Bool}
    (h : (match s.edgeNow sn leading with | some e => .next (takeEdge e s) | none => .next s :
      Host.Outcome State Fault Refusal) = .next t) : Passage s t := by
  split at h <;> cases h
  · exact .of_moves (takeEdge_moves _ s)
  · exact .same rfl

theorem issueNext_passage (u : State) : Passage u (issueNext u) := by
  unfold issueNext
  split
  next i _ hi => exact .issue i hi rfl
  · exact .same rfl

theorem takeReadResponse_passage (d : Line) (u : State) : Passage u (takeReadResponse d u) := by
  unfold takeReadResponse
  split
  next m hport => exact .ended m _ hport rfl
  · exact .freed rfl
  · exact .same rfl
  · exact .same rfl

theorem takeReadError_passage (u : State) : Passage u (takeReadError u) := by
  unfold takeReadError
  split
  next m hport =>
    refine .ended m .error hport ?_
    dsimp only
    split
    · split <;> rfl
    · rfl
  · exact .freed rfl
  · exact .same rfl
  · exact .same rfl

theorem takeWriteResponse_passage (u : State) : Passage u (takeWriteResponse u) := by
  unfold takeWriteResponse
  split
  · exact .freed rfl
  · exact .freed rfl
  · exact .same rfl
  · exact .same rfl

theorem takeWriteError_passage (u : State) : Passage u (takeWriteError u) := by
  unfold takeWriteError
  split
  · exact .freed rfl
  · exact .freed rfl
  · exact .same rfl
  · exact .same rfl

/-- What a command does to the bus passage: of the state with everything completed that had occurred, or, for a command that names
a happening, of the state it is given (log 1). -/
theorem exec_passage (c : Instr) {s t : State} (h : exec c s = .next t) : Passage s t ∨ Passage s.settle t := by
  cases c with
  | powerOnReset level => cases h; exact .inl (.reset rfl)
  | powerLoss => cases h; exact .inl (.reset rfl)
  | lineReset =>
    simp only [exec, execLineReset] at h
    split at h <;> cases h
    · exact .inr (.same rfl)
    · exact .inr (.reset rfl)
  | resetPeriodEnd =>
    simp only [exec, execResetPeriodEnd] at h
    split at h <;> cases h
    · exact .inr (.release _ rfl)
    · exact .inr (.same rfl)
  | busWrite w => exact .inr (busRequest_passage (q := .write w) rfl (fun hfree => .write w hfree rfl) h)
  | busRead r => exact .inr (busRequest_passage (q := .read r) rfl (fun hfree => .read r hfree rfl) h)
  | setupWrite m k en d =>
    exact .inr (busRequest_passage (q := .write (setupRequest m k en d)) rfl (fun hfree => .write _ hfree rfl) h)
  | arm m en d =>
    exact .inr (busRequest_passage (q := .write (armRequest m en d)) rfl (fun hfree => .write _ hfree rfl) h)
  | waitingWriteTaken m =>
    simp only [exec, execWaitingWriteTaken] at h
    split at h <;> cases h
    next w hw => exact .inl (.taken w _ hw rfl)
    · exact .inl (.same rfl)
  | memoryIssue => cases h; exact .inr (issueNext_passage _)
  | readResponse d => cases h; exact .inr (takeReadResponse_passage d _)
  | readError => cases h; exact .inr (takeReadError_passage _)
  | writeResponse => cases h; exact .inr (takeWriteResponse_passage _)
  | memoryFault => cases h; exact .inr (takeWriteError_passage _)
  | run m a b x => exact .inr (mirrorCommand_passage (controlWord_moves 1 a b x) h)
  | drain m a b x => exact .inr (mirrorCommand_passage (controlWord_moves 2 a b x) h)
  | halt m a b x => exact .inr (mirrorCommand_passage (controlWord_moves 3 a b x) h)
  | resume m a b x => exact .inr (mirrorCommand_passage (controlWord_moves 4 a b x) h)
  | standby m a b x => exact .inr (mirrorCommand_passage (controlWord_moves 5 a b x) h)
  | cancelPending m a b x => exact .inr (mirrorCommand_passage (controlWord_moves 6 a b x) h)
  | pathReset m a b x => exact .inr (mirrorCommand_passage (controlWord_moves 7 a b x) h)
  | clearTrayStall m a b x => exact .inr (mirrorCommand_passage (controlWord_moves 8 a b x) h)
  | releaseFrame m a b x => exact .inr (mirrorCommand_passage (controlWord_moves 9 a b x) h)
  | clearStanding m a b x => exact .inr (mirrorCommand_passage (controlWord_moves 10 a b x) h)
  | unknownRequest m c a b x => exact .inr (mirrorCommand_passage (controlWord_moves c a b x) h)
  | eventsTaken m n rest => exact .inr (mirrorCommand_passage (eventsTakenWord_moves n rest) h)
  | clearStandingWord m b rest => exact .inr (mirrorCommand_passage (clearStandingWord_moves b rest) h)
  | mirrorWriteIgnored m k en d =>
    simp only [exec, execMirrorWriteIgnored] at h
    split at h
    · simp only [mirrorEmpty] at h
      split at h
      · cases h
      next hfree =>
        split at h <;> cases h
        · exact .inr (.same rfl)
        · exact .inr (.answered m _ (by simpa using hfree) rfl)
    · exact .inr (mirrorCommand_passage (mirrorWrite_moves _ _ _) h)
  | encPulse =>
    simp only [exec, execEncPulse] at h
    split at h <;> cases h <;> exact .inr (.same rfl)
  | pitchTick =>
    simp only [exec, execPitchTick] at h
    split at h <;> cases h
    · exact .inl (.of_moves (takePitchTick_moves _ s))
    · exact .inl (.same rfl)
  | tick l =>
    simp only [exec, execTick] at h
    split at h <;> cases h <;> exact .inr (.same rfl)
  | leadingEdge sn => exact .inl (edge_passage h)
  | trailingEdge sn => exact .inl (edge_passage h)
  | startFail =>
    simp only [exec, execStartFail] at h
    split at h <;> cases h
    · exact .inl (.of_moves (jam_moves _ _ _ _ s))
    · exact .inl (.same rfl)
  | stall =>
    simp only [exec, execStall] at h
    split at h <;> cases h
    · exact .inl (.of_moves (jam_moves _ _ _ _ s))
    · exact .inl (.same rfl)
  | idleExpiry =>
    simp only [exec, execIdleExpiry] at h
    split at h <;> cases h <;> exact .inl (.same rfl)
  | misfeed q => exact .inl (expiring_passage h)
  | late q => exact .inl (expiring_passage h)
  | stuck q => exact .inl (expiring_passage h)
  | coverClosedFall =>
    simp only [exec, execCoverClosedFall] at h
    split at h <;> cases h
    · exact .inr (.same rfl)
    · exact .inr (.same (jam_moves _ _ _ _ _).bus_eq)
  | coverClosedRise => cases h; exact .inr (.same rfl)
  | fuserReadyRise =>
    simp only [exec, execFuserReadyRise] at h
    split at h <;> cases h <;> exact .inr (.same rfl)
  | trayEmptyChange tray level => cases h; exact .inr (.same rfl)
  | stackFullChange stack level => cases h; exact .inr (.same rfl)
  | fuserReadyFall => cases h; exact .inr (.same rfl)

/-- A write that can be taken stands among the waiting ones, and has room: no place is needed, or one is there (R8). -/
theorem takeableFrom_spec {s : State} {want : WriteReq → Bool} {older ws : List WriteReq} {w : WriteReq}
    (h : takeableFrom s want older ws = some w) :
    ∃ before after, ws = before ++ w :: after ∧ want w = true ∧ s.canTake (older ++ before) w = true := by
  induction ws generalizing older with
  | nil => cases h
  | cons x xs ih =>
    unfold takeableFrom at h
    split at h
    next hx =>
      cases h
      simp only [Bool.and_eq_true] at hx
      exact ⟨[], xs, rfl, hx.1, by simpa using hx.2⟩
    · obtain ⟨before, after, rfl, hwant, htake⟩ := ih h
      exact ⟨x :: before, after, rfl, hwant, by simpa using htake⟩

/-- A write that can be taken and queues has room in the queue (R7, R8). -/
theorem State.room_of_canTake {s : State} {older : List WriteReq} {w : WriteReq} (h : s.canTake older w = true)
    (hq : s.queueing w = true) : s.bus.holdsLine w.line = true ∨ s.bus.queue.length < 16 := by
  simp only [State.canTake, State.needsPlace, hq, Bool.true_and, Bool.not_not, Bool.or_eq_true, Bool.and_eq_true,
    decide_eq_true_eq] at h
  exact h.imp_right And.left

theorem State.takeable_spec {s : State} {want : WriteReq → Bool} {w : WriteReq} (h : s.takeable want = some w) :
    w ∈ s.bus.waiting ∧ (s.queueing w = true → s.bus.holdsLine w.line = true ∨ s.bus.queue.length < 16) := by
  obtain ⟨before, after, hsplit, -, htake⟩ := takeableFrom_spec h
  exact ⟨by simp [hsplit], State.room_of_canTake htake⟩

/-! ### The write queue (O5) -/

/-- The write queue's invariant is of its entries, the drain mode and the burst count. -/
def Bus.QueueOk (b : Bus) : Prop :=
  b.queue.length ≤ 16 ∧ (b.queue.map QueueEntry.line).Nodup ∧
  (b.drain = false → b.queue.length < 13 ∧ b.burst = 0) ∧ (b.drain = true → b.queue ≠ [] ∧ b.burst < 4)

/-- Acceptance with room keeps the queue's rules (R7, R12). -/
theorem Bus.QueueOk.accept {b : Bus} {w : WriteReq} (h : b.QueueOk)
    (hroom : b.holdsLine w.line = true ∨ b.queue.length < 16) : (b.accept w).QueueOk := by
  obtain ⟨hlength, hnodup, hoff, hon⟩ := h
  obtain ⟨q, heq, hq⟩ := Bus.accept_spec w b
  have hnew : q.length ≤ 16 ∧ (q.map QueueEntry.line).Nodup ∧ b.queue.length ≤ q.length := by
    split at hq
    next =>
      have hlines : q.map QueueEntry.line = b.queue.map QueueEntry.line := by
        rw [hq, List.map_map]
        exact List.map_congr_left fun e _ => by simp only [Function.comp]; split <;> rfl
      have hlen : q.length = b.queue.length := by rw [hq, List.length_map]
      exact ⟨hlen ▸ hlength, hlines ▸ hnodup, Nat.le_of_eq hlen.symm⟩
    next hout =>
      have hlt := hroom.resolve_left hout
      simp only [Bus.holdsLine, List.any_eq_true, beq_iff_eq, not_exists, not_and] at hout
      rw [hq]
      have hone (x : QueueEntry) : (b.queue ++ [x]).length = b.queue.length + 1 := List.length_append
      refine ⟨(hone _).symm ▸ hlt, ?_, (hone _).symm ▸ Nat.le_succ _⟩
      rw [List.map_append, List.nodup_append]
      refine ⟨hnodup, by simp, ?_⟩
      simp only [List.map_cons, List.map_nil, List.mem_singleton, forall_eq]
      intro l hl hlw
      obtain ⟨e, he, rfl⟩ := List.mem_map.mp hl
      exact hout e he hlw
  obtain ⟨hlen, hlines, hgrow⟩ := hnew
  rw [heq]
  refine ⟨hlen, hlines, fun hd => ?_, fun hd => ?_⟩
  · simp only [Bool.or_eq_false_iff, decide_eq_false_iff_not] at hd
    exact ⟨by simpa using hd.2, by simp [hd.1, hd.2, (hoff hd.1).2]⟩
  · dsimp only
    cases hdrain : b.drain with
    | false =>
      simp only [hdrain, Bool.false_or, decide_eq_true_eq] at hd
      refine ⟨fun hnil => by simp [hnil] at hd, by simp [hd]⟩
    | true =>
      obtain ⟨hne, hburst⟩ := hon hdrain
      refine ⟨fun hnil => hne (List.length_eq_zero_iff.mp ?_), by simpa using hburst⟩
      rw [hnil] at hgrow
      exact Nat.le_zero.mp hgrow

/-- An issue keeps the queue's rules (R11, R12). -/
theorem Bus.QueueOk.issue {b : Bus} (h : b.QueueOk) (i : Issue) : (b.issue i).QueueOk := by
  obtain ⟨hlength, hnodup, hoff, hon⟩ := h
  cases i with
  | read r => exact ⟨hlength, hnodup, hoff, hon⟩
  | write e =>
    have hsub := List.filter_sublist (l := b.queue) (p := fun x => x.line != e.line)
    have hle := hsub.length_le
    have hlines := (hsub.map QueueEntry.line).nodup hnodup
    simp only [Bus.issue, Bus.afterIssue]
    generalize (b.queue.filter fun x => x.line != e.line) = q at hle hlines
    have hlen : q.length ≤ 16 := Nat.le_trans hle hlength
    split
    next hd =>
      split
      next hempty =>
        refine ⟨hlen, hlines, fun _ => ⟨?_, rfl⟩, fun h => absurd h Bool.false_ne_true⟩
        simp [List.isEmpty_iff.mp hempty]
      next hne =>
        have hq : q ≠ [] := fun h => hne (List.isEmpty_iff.mpr h)
        split
        · exact ⟨hlen, hlines, fun h => ⟨by simpa using h, rfl⟩, fun _ => ⟨hq, Nat.zero_lt_succ _⟩⟩
        next hburst =>
          exact ⟨hlen, hlines, fun h => absurd (hd.symm.trans h) (by decide), fun _ => ⟨hq, Nat.not_le.mp hburst⟩⟩
    next hd =>
      refine ⟨hlen, hlines, fun h => ?_, fun h => absurd h hd⟩
      obtain ⟨hlt, hburst⟩ := hoff h
      exact ⟨Nat.lt_of_le_of_lt hle hlt, hburst⟩

theorem takeWrite_queueOk {w : WriteReq} {s : State} (h : s.bus.QueueOk)
    (hroom : s.queueing w = true → s.bus.holdsLine w.line = true ∨ s.bus.queue.length < 16) :
    (takeWrite w s).bus.QueueOk := by
  obtain ⟨t, -, ⟨a, heq⟩ | ⟨hq, heq⟩⟩ := takeWrite_spec w s <;> rw [heq]
  · exact h
  · exact h.accept (hroom hq)

theorem presentWrite_queueOk (w : WriteReq) {s : State} (h : s.bus.QueueOk) : (presentWrite w s).bus.QueueOk := by
  unfold presentWrite
  split
  · exact h
  · split
    next htake => exact takeWrite_queueOk h (State.room_of_canTake htake)
    · exact h

theorem presentRead_queueOk (r : ReadReq) {s : State} (h : s.bus.QueueOk) : (presentRead r s).bus.QueueOk := by
  obtain ⟨t, n, -, ⟨a, heq⟩ | ⟨f, heq⟩⟩ := presentRead_spec r s <;> rw [heq]
  · exact h
  · obtain ⟨hlength, hnodup, hoff, hon⟩ := h
    have hlines : ((passRead r f s).bus.queue.map QueueEntry.line) = s.bus.queue.map QueueEntry.line := by
      simp only [passRead, State.hold_bus, State.onBus_bus, Bus.setPort, List.map_map]
      exact List.map_congr_left fun e _ => by simp only [Function.comp]; split <;> rfl
    have hlen : (passRead r f s).bus.queue.length = s.bus.queue.length := by
      simpa using congrArg List.length hlines
    refine ⟨hlen ▸ hlength, hlines ▸ hnodup, fun hd => ?_, fun hd => ?_⟩
    · rw [hlen]
      exact hoff hd
    · refine ⟨fun hnil => (hon hd).1 (List.length_eq_zero_iff.mp ?_), (hon hd).2⟩
      rw [← hlen, hnil, List.length_nil]

theorem takeWaiting_queueOk {w : WriteReq} {want : WriteReq → Bool} {s : State} (hw : s.takeable want = some w)
    (h : s.bus.QueueOk) : (takeWaiting w s).bus.QueueOk :=
  takeWrite_queueOk (s := s.onBus _) h (State.takeable_spec hw).2

theorem foldl_takeHeld_queueOk (qs : List Request) {s : State} (h : s.bus.QueueOk) : (qs.foldl takeHeld s).bus.QueueOk := by
  induction qs generalizing s with
  | nil => exact h
  | cons q qs ih =>
    cases q with
    | write w => exact ih (presentWrite_queueOk w h)
    | read r => exact ih (presentRead_queueOk r h)

theorem Passage.queueOk {u t : State} (h : Passage u t) (hu : u.bus.QueueOk) : t.bus.QueueOk := by
  cases h with
  | same h => exact h ▸ hu
  | reset h => exact h ▸ ⟨Nat.zero_le _, List.nodup_nil, fun _ => ⟨Nat.zero_lt_succ _, rfl⟩, fun h => absurd h Bool.false_ne_true⟩
  | answered m a hfree h => exact h ▸ hu
  | held q m hm hfree h => exact h ▸ hu
  | write w hfree h => exact h ▸ presentWrite_queueOk w hu
  | read r hfree h => exact h ▸ presentRead_queueOk r hu
  | taken w want hw h => exact h ▸ takeWaiting_queueOk hw hu
  | release p h => exact h ▸ foldl_takeHeld_queueOk _ hu
  | issue i hchoose h => exact h ▸ hu.issue i
  | freed h => exact h ▸ hu
  | ended m a hport h => exact h ▸ hu

/-- A rule of the passage alone that every happening and every command keeps is kept by every step. -/
theorem step_keeps_bus {Q : Bus → Prop} (htaken : ∀ s w, s.takeable (fun _ => true) = some w → Q s.bus → Q (takeWaiting w s).bus)
    (hpassage : ∀ u t, Passage u t → Q u.bus → Q t.bus) {s t : State} (hs : Q s.bus) (h : step s = .next t) : Q t.bus := by
  have hsettle {s : State} (hs : Q s.bus) : Q s.settle.bus := by
    refine settle_induction (P := fun s => Q s.bus) (fun s g hout hs => ?_) hs
    rcases take_spec g hout with ⟨w, rfl, hw⟩ | ⟨-, hmoves⟩
    · exact htaken s w hw hs
    · rw [hmoves.bus_eq]
      exact hs
  unfold step at h
  split at h
  · cases h
    exact hs
  · rcases exec_passage _ h with hpass | hpass
    · exact hpassage _ _ hpass hs
    · exact hpassage _ _ hpass (hsettle hs)

/-- Settles O5: acceptance, issue and reset are the only changes of the queue. -/
theorem writeQueueKept : Obligations.WriteQueueKept := fun _ _ hs h =>
  step_keeps_bus (Q := Bus.QueueOk) (fun _ _ hw => takeWaiting_queueOk hw) (fun _ _ => Passage.queueOk) hs h

/-! ### The masters (O6) -/

/-- The masters' invariant is of the passage alone. -/
def Bus.MastersOk (b : Bus) : Prop :=
  b.askers.Nodup ∧ (∀ m ∈ b.askers, b.portOf m = .held) ∧ ∀ m, b.port = .read m → m ∈ b.reads.map OutstandingRead.master

theorem Bus.askers_eq (b : Bus) : b.askers =
    b.reads.map OutstandingRead.master ++ b.waiting.map WriteReq.master ++ b.heldRequests.map Request.asker := rfl

/-- A read that the port issues is one of the set (R11). -/
theorem Bus.mem_of_choose {b : Bus} {r : OutstandingRead} (h : b.choose = some (.read r)) : r ∈ b.reads := by
  unfold Bus.choose at h
  split at h
  · cases h
  split at h
  next hr =>
    cases h
    exact List.mem_of_find?_eq_some hr
  split at h
  · cases h
  split at h
  next hr =>
    cases h
    exact List.mem_of_find?_eq_some hr
  · cases hq : b.queue.head? <;> simp [hq] at h

theorem mastersInv_iff {s : State} : MastersInv s ↔ s.bus.MastersOk := by
  simp only [MastersInv, Bus.MastersOk, State.busHeld, beq_iff_eq]

/-- A master that is not held has no request before the passage. -/
theorem Bus.MastersOk.not_asker {b : Bus} (h : b.MastersOk) {m : Master} (hfree : b.portOf m ≠ .held) : m ∉ b.askers :=
  fun hm => hfree (h.2.1 m hm)

/-- An answer to a master without a request keeps the others held. -/
theorem Bus.MastersOk.answer {b : Bus} (h : b.MastersOk) {m : Master} (hfree : m ∉ b.askers) (a : Answer) :
    (b.setPort m (.answered a)).MastersOk := by
  obtain ⟨hnodup, hheld, hread⟩ := h
  refine ⟨hnodup, fun k hk => ?_, hread⟩
  rw [Bus.portOf_setPort, if_neg fun hkm : k = m => hfree (hkm ▸ hk)]
  exact hheld k hk

/-- A request of a master without one, with its master held. -/
theorem Bus.MastersOk.ask {b b' : Bus} (h : b.MastersOk) {m : Master} (hfree : m ∉ b.askers)
    (hperm : b'.askers.Perm (m :: b.askers)) (hmasters : b'.masters = b.masters) (hport : b'.port = b.port)
    (hreads : ∀ k ∈ b.reads.map OutstandingRead.master, k ∈ b'.reads.map OutstandingRead.master) :
    (b'.setPort m .held).MastersOk := by
  obtain ⟨hnodup, hheld, hread⟩ := h
  refine ⟨hperm.nodup_iff.mpr (List.nodup_cons.mpr ⟨hfree, hnodup⟩), fun k hk => ?_, fun k hk => hreads k (hread k (hport ▸ hk))⟩
  rw [Bus.portOf_setPort]
  split
  · rfl
  next hkm =>
    have hk' := (List.mem_cons.mp (hperm.mem_iff.mp hk)).resolve_left hkm
    have := hheld k hk'
    simpa only [Bus.portOf, hmasters] using this

theorem Bus.accept_askers (w : WriteReq) (b : Bus) : (b.accept w).askers = b.askers := by
  obtain ⟨q, heq, -⟩ := Bus.accept_spec w b
  rw [heq]
  rfl

theorem Bus.MastersOk.accept {b : Bus} (h : b.MastersOk) (w : WriteReq) : (b.accept w).MastersOk := by
  obtain ⟨q, heq, -⟩ := Bus.accept_spec w b
  rw [heq]
  exact h

theorem takeWrite_mastersOk {w : WriteReq} {s : State} (h : s.bus.MastersOk) (hfree : w.master ∉ s.bus.askers) :
    (takeWrite w s).bus.MastersOk ∧ (takeWrite w s).bus.askers = s.bus.askers := by
  obtain ⟨t, -, ⟨a, heq⟩ | ⟨hq, heq⟩⟩ := takeWrite_spec w s <;> rw [heq]
  · exact ⟨h.answer hfree a, rfl⟩
  · exact ⟨(h.accept w).answer (by rwa [Bus.accept_askers]) _, Bus.accept_askers w s.bus⟩

/-- A presented write of a master without a request: afterwards at most that master has one more. -/
theorem presentWrite_mastersOk {w : WriteReq} {s : State} (h : s.bus.MastersOk) (hfree : w.master ∉ s.bus.askers) :
    (presentWrite w s).bus.MastersOk ∧ ∀ m ∈ (presentWrite w s).bus.askers, m = w.master ∨ m ∈ s.bus.askers := by
  unfold presentWrite
  split
  · exact ⟨h.answer hfree _, fun _ => .inr⟩
  · split
    · obtain ⟨hok, hsame⟩ := takeWrite_mastersOk h hfree
      exact ⟨hok, fun m hm => .inr (hsame ▸ hm)⟩
    · have hperm : ({ s.bus with waiting := s.bus.waiting ++ [w] } : Bus).askers.Perm (w.master :: s.bus.askers) := by
        rw [Bus.askers_eq, Bus.askers_eq]
        simp only [List.map_append, List.map_cons, List.map_nil, List.append_assoc]
        exact (List.perm_middle.append_left _).trans List.perm_middle
      exact ⟨h.ask hfree hperm rfl rfl fun _ => id, fun m hm => List.mem_cons.mp (hperm.mem_iff.mp hm)⟩

theorem presentRead_mastersOk {r : ReadReq} {s : State} (h : s.bus.MastersOk) (hfree : r.master ∉ s.bus.askers) :
    (presentRead r s).bus.MastersOk ∧ ∀ m ∈ (presentRead r s).bus.askers, m = r.master ∨ m ∈ s.bus.askers := by
  obtain ⟨t, n, -, ⟨a, heq⟩ | ⟨f, heq⟩⟩ := presentRead_spec r s <;> rw [heq]
  · exact ⟨h.answer hfree a, fun _ => .inr⟩
  · have hperm : ({ s.bus with
        reads := s.bus.reads ++ [⟨r.master, r.line, r.enables, f, false⟩]
        queue := s.bus.queue.map fun e => if e.line = r.line then { e with promoted := true } else e } : Bus).askers.Perm
          (r.master :: s.bus.askers) := by
      rw [Bus.askers_eq, Bus.askers_eq]
      simp only [List.map_append, List.map_cons, List.map_nil, List.append_assoc]
      exact List.perm_middle
    refine ⟨h.ask hfree hperm rfl rfl fun k hk => ?_, fun m hm => List.mem_cons.mp (hperm.mem_iff.mp hm)⟩
    obtain ⟨x, hx, rfl⟩ := List.mem_map.mp hk
    exact List.mem_map_of_mem (List.mem_append_left _ hx)

theorem takeWaiting_mastersOk {w : WriteReq} {want : WriteReq → Bool} {s : State} (hw : s.takeable want = some w)
    (h : s.bus.MastersOk) : (takeWaiting w s).bus.MastersOk := by
  obtain ⟨hmem, -⟩ := State.takeable_spec hw
  have hperm : s.bus.askers.Perm (w.master :: ({ s.bus with waiting := s.bus.waiting.erase w } : Bus).askers) := by
    rw [Bus.askers_eq, Bus.askers_eq]
    have := ((List.perm_cons_erase hmem).map WriteReq.master).append_left (s.bus.reads.map OutstandingRead.master)
    exact ((this.append_right _).trans (List.perm_middle.append_right _)).trans (by simp)
  obtain ⟨hnodup, hheld, hread⟩ := h
  obtain ⟨hfree, hnodup'⟩ := List.nodup_cons.mp (hperm.nodup_iff.mp hnodup)
  exact (takeWrite_mastersOk (s := s.onBus fun b => { b with waiting := b.waiting.erase w })
    ⟨hnodup', fun m hm => hheld m (hperm.mem_iff.mpr (List.mem_cons_of_mem _ hm)), hread⟩ hfree).1

/-- The requests held through a reset period, of different masters that have no other request, are presented in turn (R24). -/
theorem foldl_takeHeld_mastersOk (qs : List Request) {s : State} (h : s.bus.MastersOk)
    (hnodup : (qs.map Request.asker).Nodup) (hfree : ∀ q ∈ qs, q.asker ∉ s.bus.askers) :
    (qs.foldl takeHeld s).bus.MastersOk := by
  induction qs generalizing s with
  | nil => exact h
  | cons q qs ih =>
    obtain ⟨hout, hrest⟩ := List.nodup_cons.mp hnodup
    have hone : (takeHeld s q).bus.MastersOk ∧ ∀ m ∈ (takeHeld s q).bus.askers, m = q.asker ∨ m ∈ s.bus.askers := by
      cases q with
      | write w => exact presentWrite_mastersOk h (hfree (.write w) (by simp))
      | read r => exact presentRead_mastersOk h (hfree (.read r) (by simp))
    refine ih hone.1 hrest fun x hx hmem => ?_
    rcases hone.2 _ hmem with hq | hold
    · exact hout (hq ▸ List.mem_map_of_mem hx)
    · exact hfree x (List.mem_cons_of_mem _ hx) hold

/-- An issue keeps the requests, and a read in flight is one of them (R11). -/
theorem Bus.MastersOk.issue {b : Bus} (h : b.MastersOk) {i : Issue} (hi : b.choose = some i) : (b.issue i).MastersOk := by
  obtain ⟨hnodup, hheld, hread⟩ := h
  cases i with
  | write e =>
    have hsame : ∃ q d n, b.issue (.write e) = { b with queue := q, drain := d, burst := n, port := .write e } := by
      simp only [Bus.issue, Bus.afterIssue]
      split
      · split
        · exact ⟨_, _, _, rfl⟩
        · split <;> exact ⟨_, _, _, rfl⟩
      · exact ⟨_, _, _, rfl⟩
    obtain ⟨q, d, n, hsame⟩ := hsame
    rw [hsame]
    exact ⟨hnodup, hheld, fun m hm => by cases hm⟩
  | read r =>
    have hmap : (b.reads.map fun x => if x.master = r.master then { x with issued := true } else x).map OutstandingRead.master =
        b.reads.map OutstandingRead.master := by
      rw [List.map_map]
      exact List.map_congr_left fun x _ => by simp only [Function.comp]; split <;> rfl
    have haskers : (b.issue (.read r)).askers = b.askers := by
      simp only [Bus.askers, Bus.issue, hmap]
    refine ⟨haskers ▸ hnodup, fun m hm => hheld m (haskers ▸ hm), fun m hm => ?_⟩
    cases hm
    simp only [Bus.issue, hmap]
    exact List.mem_map_of_mem (Bus.mem_of_choose hi)

theorem Passage.mastersOk {u t : State} (h : Passage u t) (hu : u.bus.MastersOk) : t.bus.MastersOk := by
  have hnot {m : Master} (hfree : u.busHeld m = false) : m ∉ u.bus.askers :=
    hu.not_asker fun hheld => by simp [State.busHeld, hheld] at hfree
  cases h with
  | same h => exact h ▸ hu
  | reset h =>
    rw [h]
    refine ⟨List.nodup_nil, fun m hm => absurd hm List.not_mem_nil, fun m hm => ?_⟩
    simp only [Bus.reset] at hm
    cases hport : u.bus.port <;> rw [hport] at hm <;> cases hm
  | answered m a hfree h => exact h ▸ hu.answer (hnot hfree) a
  | held q m hm hfree h =>
    have hperm : ({ u.bus with heldRequests := u.bus.heldRequests ++ [q] } : Bus).askers.Perm (m :: u.bus.askers) := by
      rw [Bus.askers_eq, Bus.askers_eq, ← hm]
      simp only [List.map_append, List.map_cons, List.map_nil, ← List.append_assoc]
      exact List.perm_append_singleton _ _
    exact h ▸ hu.ask (hnot hfree) hperm rfl rfl fun _ => id
  | write w hfree h => exact h ▸ (presentWrite_mastersOk hu (hnot hfree)).1
  | read r hfree h => exact h ▸ (presentRead_mastersOk hu (hnot hfree)).1
  | taken w want hw h => exact h ▸ takeWaiting_mastersOk hw hu
  | release p h =>
    obtain ⟨hnodup, hheld, hread⟩ := hu
    rw [Bus.askers_eq, List.nodup_append] at hnodup
    obtain ⟨hothers, hqs, hdisjoint⟩ := hnodup
    have haskers : ({ u.bus with heldRequests := [] } : Bus).askers =
        u.bus.reads.map OutstandingRead.master ++ u.bus.waiting.map WriteReq.master := by
      simp [Bus.askers_eq]
    rw [h]
    refine foldl_takeHeld_mastersOk _ ⟨?_, fun m hm => ?_, hread⟩ hqs fun q hq hmem => ?_
    · rw [haskers]
      exact hothers
    · rw [haskers] at hm
      exact hheld m (by rw [Bus.askers_eq]; exact List.mem_append_left _ hm)
    · rw [haskers] at hmem
      exact hdisjoint _ hmem _ (List.mem_map_of_mem hq) rfl
  | issue i hchoose h => exact h ▸ hu.issue hchoose
  | freed h => exact h ▸ ⟨hu.1, hu.2.1, fun m hm => by cases hm⟩
  | ended m a hport h =>
    obtain ⟨hnodup, hheld, hread⟩ := hu
    have hsub : (u.bus.endRead m).askers.Sublist u.bus.askers := by
      rw [Bus.askers_eq, Bus.askers_eq]
      exact ((List.filter_sublist.map _).append (List.Sublist.refl _)).append (List.Sublist.refl _)
    have hok : (u.bus.endRead m).MastersOk :=
      ⟨hsub.nodup hnodup, fun k hk => hheld k (hsub.subset hk), fun k hk => by cases hk⟩
    refine h ▸ hok.answer (fun hm => ?_) a
    rw [Bus.askers_eq, List.append_assoc, List.nodup_append] at hnodup
    rw [Bus.askers_eq, List.append_assoc, List.mem_append] at hm
    rcases hm with hm | hm
    · obtain ⟨r, hr, hrm⟩ := List.mem_map.mp hm
      have := (List.mem_filter.mp hr).2
      simp [hrm] at this
    · exact hnodup.2.2 m (hread m hport) m hm rfl

/-- Settles O6: a request is presented by a master without one, and ends with an answer. -/
theorem mastersKept : Obligations.MastersKept := fun _ _ hs h =>
  mastersInv_iff.mpr (step_keeps_bus (Q := Bus.MastersOk) (fun _ _ hw => takeWaiting_mastersOk hw)
    (fun _ _ => Passage.mastersOk) (mastersInv_iff.mp hs) h)

end Sys2Proof.Machine

/-! # Proofs: completing what has occurred -/

namespace Sys2Proof.Machine

/-! ## The weight of what is outstanding

Every taking lowers a weight: a waiting write and a deadline weigh one, a pitch tick two, since a launch sets one deadline, and an
edge three, since a match sets two. A limit weighs one more while the path is driven; only a write can start the path again, and no
other taking makes a waiting write takeable. -/

/-- The weight of the edges and the pitch tick. -/
def Clock.load (c : Clock) : Nat := 3 * c.edges.length + if c.tick.isSome then 2 else 0

/-- The weight of the edges, the deadlines and the pitch tick. -/
def State.load (s : State) : Nat := s.clock.load + s.track.deadlines.length

/-- The weight of all that is outstanding. -/
def State.weight (s : State) : Nat :=
  s.bus.waiting.length + s.load + if (s.takeable fun _ => true).isSome = true ∨ s.driven = true then 1 else 0

/-- From `s` to `t` the load rises by at most `n`, and a path that was not driven is not. -/
structure Calm (n : Nat) (s t : State) : Prop where
  load : t.load ≤ s.load + n
  driven : t.driven = true → s.driven = true

theorem Calm.refl (s : State) : Calm 0 s s := ⟨Nat.le_refl _, id⟩

theorem Calm.trans {m n : Nat} {a b c : State} (h : Calm m a b) (h' : Calm n b c) : Calm (m + n) a c :=
  ⟨by have := h.load; have := h'.load; omega, fun hc => h.driven (h'.driven hc)⟩

theorem Calm.trans_zero {n : Nat} {a b c : State} (h : Calm n a b) (h' : Calm 0 b c) : Calm n a c := h.trans h'

/-- A change that keeps the clock and the path state, and sets at most `n` deadlines. -/
theorem Calm.of_deadlines {n : Nat} {s t : State} (hclock : t.clock = s.clock) (hpath : t.seqr.path = s.seqr.path)
    (hdeadlines : t.track.deadlines.length ≤ s.track.deadlines.length + n) : Calm n s t :=
  ⟨by simp only [State.load, hclock]; omega, by simp only [State.driven, hpath, imp_self]⟩

/-- A change that keeps the clock, the path state and the deadlines. -/
theorem Calm.of_same {s t : State} (hclock : t.clock = s.clock) (hpath : t.seqr.path = s.seqr.path)
    (hdeadlines : t.track.deadlines = s.track.deadlines) : Calm 0 s t :=
  .of_deadlines hclock hpath (by rw [hdeadlines]; exact Nat.le_refl _)

/-- A change that keeps the clock and stops the path, clearing the deadlines. -/
theorem Calm.of_stop {s t : State} (hclock : t.clock = s.clock) (hstop : t.driven = false) (hdeadlines : t.track.deadlines = []) :
    Calm 0 s t :=
  ⟨by simp only [State.load, hclock, hdeadlines, List.length_nil]; omega, fun h => by simp [hstop] at h⟩

theorem raiseAt_calm (e : Event) (a : PathCount) (s : State) : Calm 0 s (s.raiseAt e a) := .of_same rfl rfl rfl

theorem raise_calm (e : Event) (s : State) : Calm 0 s (s.raise e) := .of_same rfl rfl rfl

theorem enterStopped_calm {p : PathState} (hp : p.driven = false) (s : State) : Calm 0 s (s.enterStopped p) :=
  .of_stop rfl hp rfl

theorem drainDone_calm (s : State) : Calm 0 s s.drainDone := by
  unfold State.drainDone
  split
  · exact enterStopped_calm rfl s
  · exact .refl s

theorem jam_calm (c : JamCode) (st : Option Sensor) (q : Option Seq) (a : PathCount) (s : State) :
    Calm 0 s (s.jam c st q a) := by
  cases hdriven : s.driven with
  | false => rw [State.jam_stopped hdriven]; exact .refl s
  | true => rw [State.jam_driven hdriven]; exact .of_stop rfl rfl rfl

theorem spoil_deadlines (t : Tracking) (q : Seq) (w : SpoilReason) : (t.spoil q w).deadlines = t.deadlines :=
  (congrArg Tracking.deadlines (t.spoil_frame q w) :)

theorem joinGate_deadlines (t : Tracking) (q : Seq) : (t.joinGate q).deadlines = t.deadlines := by
  unfold Tracking.joinGate
  dsimp only
  split
  · rw [Tracking.showHead_frame]
  · rfl

theorem decide_deadlines (t : Tracking) (q : Seq) : (t.decide q).deadlines = t.deadlines := by
  unfold Tracking.decide
  split
  · rfl
  · split <;> exact joinGate_deadlines _ q

theorem openFor_calm (q : Seq) (side : Side) (ref : Option FrameRef) (s : State) : Calm 0 s (openFor q side ref s) := by
  unfold openFor
  split
  · exact .refl s
  · split
    · exact .of_same rfl rfl (spoil_deadlines s.track q .fetch)
    · exact .of_same rfl rfl rfl

theorem finalFuse_calm (q : Seq) (s : State) : Calm 0 s (finalFuse q s) := .of_same rfl rfl (decide_deadlines _ q)

theorem leadingAction_calm (r : Record) (v : Nat) (s : State) : Calm 0 s (leadingAction r v s) := by
  unfold leadingAction
  split
  · exact .of_same rfl rfl rfl
  · exact openFor_calm _ _ _ s
  · exact finalFuse_calm _ s
  · exact .of_same rfl rfl rfl
  · exact openFor_calm _ _ _ s
  · exact finalFuse_calm _ s
  · exact .refl s

/-- A record that awaits a visit has one deadline more (R84). -/
theorem await_deadlines (u : Setup) (q : Seq) (l : PathCount) (sides : Sides) (v : Nat) (t : Tracking) :
    (t.await u q l sides v).deadlines.length ≤ t.deadlines.length + 1 := by
  unfold Tracking.await
  split
  · omega
  · simp [Tracking.setDeadline, Tracking.putQueue]

/-- A match sets at most two deadlines: the stuck deadline, and the window-close deadline of the next visit (R84, R127). -/
theorem matched_deadlines (sn : Sensor) (rest : List Arrival) (r : Record) (stamp : PathCount) (u : Setup) (t : Tracking) :
    (matched sn rest r stamp u t).deadlines.length ≤ t.deadlines.length + 2 := by
  have hwithdrawn : (Tracking.withdraw .windowClose r.seq (t.putQueue sn rest)).deadlines.length ≤ t.deadlines.length :=
    List.length_filter_le _ _
  have hstuck (x : Tracking) (o : Occupancy) (d : Deadline) (c : Prop) [Decidable c] (g : Record → Record) :
      (((if c then x.setDeadline d else x).putOccupant sn (some o)).modify r.seq g).deadlines.length ≤
        x.deadlines.length + 1 := by
    split
    · simp [Tracking.setDeadline, Tracking.putOccupant, Tracking.modify]
    · exact Nat.le_succ _
  unfold matched
  dsimp only
  split
  · refine Nat.le_trans (await_deadlines _ _ _ _ _ _) ?_
    exact Nat.succ_le_succ (Nat.le_trans (hstuck _ _ _ _ _) (Nat.succ_le_succ hwithdrawn))
  · exact Nat.le_trans (Nat.le_trans (hstuck _ _ _ _ _) (Nat.succ_le_succ hwithdrawn)) (Nat.le_succ _)

theorem takeLeading_calm (sn : Sensor) (stamp : PathCount) (s : State) : Calm 2 s (takeLeading sn stamp s) := by
  have hzero {t : State} (h : Calm 0 s t) : Calm 2 s t := ⟨Nat.le_trans h.load (Nat.le_add_right _ _), h.driven⟩
  unfold takeLeading
  split
  · exact hzero (jam_calm _ _ _ _ s)
  next rest _ =>
    split
    · exact hzero (jam_calm _ _ _ _ s)
    · split
      next r _ =>
        rw [matchHead_eq]
        exact (Calm.of_deadlines (s := s) (t := { s with track := matched sn rest r stamp s.setup s.track }) rfl rfl
          (matched_deadlines sn rest r stamp s.setup s.track)).trans_zero (leadingAction_calm _ _ _)
      · exact hzero (.of_same rfl rfl rfl)

/-- The stuck deadline's move sets one deadline at most (R129). -/
theorem moveStuck_deadlines (u : Setup) (sn : Sensor) (o : Occupancy) (t : Tracking) :
    (t.moveStuck u sn o).deadlines.length ≤ t.deadlines.length + 1 := by
  have hle : (t.withdrawStuck sn o.seq).deadlines.length ≤ t.deadlines.length := List.length_filter_le _ _
  unfold Tracking.moveStuck
  split
  · exact Nat.le_trans hle (Nat.le_succ _)
  · split
    · simpa [Tracking.setDeadline] using hle
    · exact Nat.le_succ _

theorem leavePath_calm (q : Seq) (s : State) : Calm 0 s (s.leavePath q) := by
  obtain ⟨lines, hgate, -⟩ := s.track.leaveGate_spec q
  rw [State.leavePath_frame, hgate]
  exact .of_same rfl rfl rfl

theorem release_calm (o : Order) (s : State) : Calm 0 s (s.release o) := by
  rw [State.release_frame]
  exact .of_same rfl rfl rfl

theorem toReprint_calm (c : OrderCopy) (s : State) : Calm 0 s (s.toReprint c) := .of_same rfl (State.toReprint_path s c) rfl

theorem deliver_calm (r : Record) (stack : Stack) (stamp : PathCount) (s : State) : Calm 0 s (deliver r stack stamp s) := by
  have hdel : Calm 0 s (s.onTrack fun t => { t with dDel := r.seq + 1 }) := .of_same rfl rfl rfl
  have hleft := hdel.trans_zero (leavePath_calm r.seq _)
  have hrecord (u : State) : Calm 0 u { u with latch := { u.latch with recordValid := true, recordSeq := r.seq } } :=
    .of_same rfl rfl rfl
  exact (((hleft.trans_zero (hrecord _)).trans_zero (raiseAt_calm _ _ _)).trans_zero (release_calm _ _)).trans_zero
    (drainDone_calm _)

theorem divert_calm (r : Record) (stamp : PathCount) (s : State) : Calm 0 s (divert r stamp s) :=
  (((leavePath_calm r.seq s).trans_zero (toReprint_calm r.copy _)).trans_zero (raiseAt_calm _ _ _)).trans_zero (drainDone_calm _)

theorem measureSheet_calm (r : Record) (o : Occupancy) (stamp : PathCount) (s : State) : Calm 0 s (measureSheet r o stamp s) := by
  unfold measureSheet
  dsimp only
  split
  · exact .of_same rfl rfl (spoil_deadlines _ _ _)
  · exact .of_same rfl rfl rfl

theorem trailingAction_calm (sn : Sensor) (r : Record) (o : Occupancy) (stamp : PathCount) (s : State) :
    Calm 0 s (trailingAction sn r o stamp s) := by
  cases sn with
  | feed => exact measureSheet_calm r o stamp s
  | xfer => exact .of_same rfl rfl rfl
  | exit =>
    change Calm 0 s (exitTrailing r stamp s)
    unfold exitTrailing
    split
    · exact deliver_calm r _ stamp s
    · exact divert_calm r stamp s
    · exact divert_calm r stamp s
    · exact divert_calm r stamp s
  | reg => exact .refl s
  | fuse => exact .refl s
  | loop => exact .refl s

theorem takeTrailing_calm (sn : Sensor) (stamp : PathCount) (s : State) : Calm 1 s (takeTrailing sn stamp s) := by
  unfold takeTrailing
  split
  · exact ⟨Nat.le_trans (jam_calm _ _ _ _ s).load (Nat.le_succ _), (jam_calm _ _ _ _ s).driven⟩
  next o ho =>
    have hmoved : Calm 1 s (s.onTrack fun t => (t.putOccupant sn none).moveStuck s.setup sn o) :=
      .of_deadlines rfl rfl (moveStuck_deadlines _ _ _ (s.track.putOccupant sn none))
    dsimp only
    split
    · exact hmoved.trans_zero (trailingAction_calm _ _ _ _ _)
    · exact hmoved

theorem misfeed_calm (r : Record) (value : PathCount) (s : State) : Calm 0 s (misfeed r value s) := by
  have hleft (c : OrderCopy) : Calm 0 s (((s.onTrack fun t =>
      (t.putQueue .feed ((t.queueAt .feed).filter fun a => a.seq != r.seq)).remove r.seq).freeSheet r.seq).toReprint c) :=
    Calm.trans_zero (b := State.freeSheet r.seq (s.onTrack fun t =>
      (t.putQueue .feed ((t.queueAt .feed).filter fun a => a.seq != r.seq)).remove r.seq)) (.of_same rfl rfl rfl)
      (toReprint_calm c _)
  have hstall (u : State) (v : Vector Bool 4) : Calm 0 u { u with launch := { u.launch with stalled := v } } :=
    .of_same rfl rfl rfl
  unfold misfeed
  dsimp only
  split
  · exact ((hleft _).trans_zero (raiseAt_calm _ _ _)).trans_zero (drainDone_calm _)
  · refine Calm.trans_zero ?_ (drainDone_calm _)
    refine Calm.trans_zero ?_ (raise_calm _ _)
    exact ((hleft _).trans_zero (raiseAt_calm _ _ _)).trans_zero (hstall _ _)

theorem launch_calm (c : Candidate) (n : PitchNo) (count : PathCount) (s : State) : Calm 1 s (launch c n count s) := by
  refine .of_deadlines ?_ ?_ ?_
  · cases c <;> rfl
  · simp only [launch]
    cases c <;> split <;> rfl
  · refine Nat.le_trans (await_deadlines _ _ _ _ _ _) ?_
    cases c <;> exact Nat.le_refl _

/-! ## Each taking lowers the weight -/

/-- A waiting write can be taken or not by the passage, the armed state and the setup values alone (R8). -/
theorem State.takeable_congr {s t : State} (hbus : t.bus = s.bus) (hsetup : t.setup = s.setup) (harmed : t.armed = s.armed)
    (want : WriteReq → Bool) : t.takeable want = s.takeable want := by
  have htake (older : List WriteReq) (w : WriteReq) : t.canTake older w = s.canTake older w := by
    have hneeds (x : WriteReq) : t.needsPlace x = s.needsPlace x := by
      simp only [State.needsPlace, State.queueing, State.region, hbus, hsetup, harmed]
    have hneeds' : t.needsPlace = s.needsPlace := funext hneeds
    simp only [State.canTake, hneeds', hbus]
  have hfrom (older ws : List WriteReq) : takeableFrom t want older ws = takeableFrom s want older ws := by
    induction ws generalizing older with
    | nil => rfl
    | cons w ws ih => simp only [takeableFrom, htake, ih]
  simp only [State.takeable, hbus, hfrom]

/-- A taking of another happening than a write, which keeps the passage, the armed state and the setup values, lowers the weight as
soon as the load falls, or the path stops. -/
theorem weight_lt {s t : State} (hmoves : Moves s t) (hnone : s.takeable (fun _ => true) = none)
    (hload : t.load < s.load ∧ (t.driven = true → s.driven = true) ∨
      t.load ≤ s.load ∧ s.driven = true ∧ t.driven = false) : t.weight < s.weight := by
  have hframe := hmoves.frame
  have htakeable : t.takeable (fun _ => true) = none :=
    (State.takeable_congr hframe.bus hframe.setup hframe.armed _).trans hnone
  simp only [State.weight, hframe.bus, htakeable, hnone, Option.isSome_none, Bool.false_eq_true, false_or]
  rcases hload with ⟨hlt, hdriven⟩ | ⟨hle, hs, ht⟩
  · by_cases ht : t.driven = true
    · rw [if_pos ht, if_pos (hdriven ht)]
      omega
    · rw [if_neg ht]
      omega
  · simp only [hs, ht, Bool.false_eq_true, if_true, if_false]
    omega

/-- An edge that can be delivered is one of those that wait. -/
theorem State.mem_of_edgeNow {s : State} {sn : Sensor} {l : Bool} {e : Edge} (h : s.edgeNow sn l = some e) :
    e ∈ s.clock.edges := by
  unfold State.edgeNow at h
  split at h
  next x hx =>
    split at h
    · cases h
      exact List.mem_of_find?_eq_some hx
    · cases h
  · cases h

/-- The edge leaves the undelivered ones. -/
def State.dropEdge (e : Edge) (s : State) : State := { s with clock := { s.clock with edges := s.clock.edges.erase e } }

theorem takeEdge_eq (e : Edge) (s : State) :
    takeEdge e s = if s.driven then
        if e.leading then takeLeading e.sensor e.stamp (s.dropEdge e) else takeTrailing e.sensor e.stamp (s.dropEdge e)
      else s.dropEdge e := rfl

theorem takeEdge_lighter {e : Edge} {s : State} (he : e ∈ s.clock.edges) :
    (takeEdge e s).load < s.load ∧ ((takeEdge e s).driven = true → s.driven = true) := by
  have hlength := List.length_erase_of_mem he
  have hpos := List.length_pos_of_mem he
  have hdrop : (s.dropEdge e).load + 3 = s.load := by
    cases htick : s.clock.tick <;> simp [State.load, Clock.load, State.dropEdge, hlength, htick] <;> omega
  rw [takeEdge_eq]
  split
  next hdriven =>
    refine ⟨?_, fun _ => hdriven⟩
    split
    · have := (takeLeading_calm e.sensor e.stamp (s.dropEdge e)).load
      omega
    · have := (takeTrailing_calm e.sensor e.stamp (s.dropEdge e)).load
      omega
  · exact ⟨by omega, id⟩

/-- The deadline leaves the set. -/
def State.dropDeadline (d : Deadline) (s : State) : State := s.onTrack fun t => { t with deadlines := t.deadlines.erase d }

theorem takeExpiry_eq (d : Deadline) (s : State) :
    takeExpiry d s = if s.driven then
        match d.kind with
        | .stuck => (s.dropDeadline d).jam .stuck (some d.sensor) (some d.owner) d.value
        | .windowClose =>
          if d.sensor = .feed then
            match s.track.find d.owner with
            | some r => misfeed r d.value (s.dropDeadline d)
            | none => s.dropDeadline d
          else (s.dropDeadline d).jam .late (some d.sensor) (some d.owner) d.value
      else s.dropDeadline d := rfl

theorem takeExpiry_lighter {d : Deadline} {s : State} (hd : d ∈ s.track.deadlines) :
    (takeExpiry d s).load < s.load ∧ ((takeExpiry d s).driven = true → s.driven = true) := by
  have hlength := List.length_erase_of_mem hd
  have hpos := List.length_pos_of_mem hd
  have hdrop : (s.dropDeadline d).load + 1 = s.load := by
    simp only [State.load, State.dropDeadline, State.onTrack, hlength]
    omega
  have hcalm : Calm 0 (s.dropDeadline d) (takeExpiry d s) := by
    rw [takeExpiry_eq]
    split
    · split
      · exact jam_calm _ _ _ _ _
      · split
        · split
          · exact misfeed_calm _ _ _
          · exact .refl _
        · exact jam_calm _ _ _ _ _
    · exact .refl _
  have hload := hcalm.load
  exact ⟨by omega, hcalm.driven⟩

/-- The tick is taken and the launch registers aged (R108). -/
def State.dropTick (p : PitchTick) (s : State) : State :=
  { s with clock := { s.clock with tick := none }, launch := s.launch.age p.number }

/-- What a pitch tick does, by path state (R70, R91). -/
theorem takePitchTick_cases (p : PitchTick) (s : State) :
    (s.seqr.path = .starting → takePitchTick p s =
      if s.pins.fuserReady then ((s.dropTick p).onSeqr fun q => { q with motionSeen := true }).enterRunning
      else (s.dropTick p).onSeqr fun q => { q with motionSeen := true }) ∧
    (s.seqr.path = .running → takePitchTick p s =
      if p.running then launchOpportunity p (s.dropTick p) else s.dropTick p) ∧
    (s.seqr.path ≠ .starting → s.seqr.path ≠ .running → takePitchTick p s = s.dropTick p) := by
  refine ⟨fun h => ?_, fun h => ?_, fun h h' => ?_⟩
  · simp only [takePitchTick, h]
    rfl
  · simp only [takePitchTick, h]
    rfl
  · unfold takePitchTick
    dsimp only
    split
    next hp => exact absurd hp h
    next hp => exact absurd hp h'
    next => rfl

theorem takePitchTick_lighter {p : PitchTick} {s : State} (hp : s.clock.tick = some p) :
    (takePitchTick p s).load < s.load ∧ ((takePitchTick p s).driven = true → s.driven = true) := by
  obtain ⟨hstarting, hrunning, hother⟩ := takePitchTick_cases p s
  have hdrop : (s.dropTick p).load + 2 = s.load := by
    simp only [State.load, Clock.load, State.dropTick, hp, Option.isSome_none, Option.isSome_some]
    simp
    omega
  have hlight {u : State} (h : u.load = (s.dropTick p).load) : u.load < s.load := by omega
  by_cases hs : s.seqr.path = .starting
  · rw [hstarting hs]
    refine ⟨?_, fun _ => by simp [State.driven, hs, PathState.driven]⟩
    split <;> exact hlight rfl
  by_cases hr : s.seqr.path = .running
  · rw [hrunning hr]
    refine ⟨?_, fun _ => by simp [State.driven, hr, PathState.driven]⟩
    unfold launchOpportunity
    split
    · split
      next c _ =>
        split
        · have := (launch_calm c p.number p.count (s.dropTick p)).load
          omega
        · exact hlight rfl
      · exact hlight rfl
    · exact hlight rfl
  · rw [hother hs hr]
    exact ⟨hlight rfl, id⟩

/-! ### Writes -/

/-- A release neither sets a deadline nor touches the clock. -/
theorem foldl_releaseOne_load (needs : List (Nat × Nat)) (s : State) : (needs.foldl releaseOne s).load = s.load := by
  induction needs generalizing s with
  | nil => rfl
  | cons x xs ih =>
    rw [List.foldl_cons, ih, releaseOne_frame]
    rfl

theorem cancelAll_load (s : State) : s.cancelAll.load = s.load := by
  unfold State.cancelAll
  split
  · rfl
  · rw [foldl_cancelOne]
    exact foldl_releaseOne_load _ s

theorem pathReset_load (s : State) : s.pathReset.load ≤ s.load := by
  obtain ⟨f, m, hfold, -, -⟩ := resetFrames_fold s 64 (Nat.le_refl _)
  have hreset : s.resetFrames = ((List.range 64).foldl resetFrame s).onFrames fun f => { f with window := [] } := rfl
  rw [hfold] at hreset
  simp only [State.pathReset, hreset]
  have hcleared (u : State) (hclock : u.clock = s.clock) (hdeadlines : u.track.deadlines = []) : u.load ≤ s.load := by
    simp only [State.load, hclock, hdeadlines, List.length_nil]
    omega
  split <;> exact hcleared _ rfl rfl

theorem dispatchRequest_load (c a : Byte) (s : State) : (dispatchRequest c a s).load ≤ s.load := by
  have hstop (p : PathState) : (s.enterStopped p).load ≤ s.load := by
    simp only [State.load, State.enterStopped, State.enter_clock, State.enter_track, Tracking.stopped, List.length_nil]
    omega
  have hsame : s.load ≤ s.load := Nat.le_refl _
  have hjam := (jam_calm .halt none none s.clock.pathCount s).load
  have hdrain := (drainDone_calm (State.enter .draining (s.onSeqr fun q => { q with startCtr := 0, idleCtr := 0 }))).load
  unfold dispatchRequest
  split
  · unfold requestRun
    repeat' split
    all_goals exact hsame
  · unfold requestDrain
    split
    · exact hdrain
    · exact hdrain
    · exact hstop _
    all_goals exact hsame
  · unfold requestHalt
    split
    · exact hjam
    · exact hsame
  · unfold requestResume
    split
    · split
      · exact hsame
      · split
        · exact hstop _
        · exact hsame
    · exact hsame
  · unfold requestStandby
    split
    · split
      · exact hstop _
      · exact hsame
    all_goals exact hsame
  · unfold requestCancel
    split
    · exact Nat.le_of_eq (cancelAll_load s)
    · exact hsame
  · unfold requestPathReset
    split
    · exact pathReset_load s
    · exact hsame
  · unfold requestClearTrayStall
    split <;> exact hsame
  · unfold requestReleaseFrame
    dsimp only
    split
    · exact hsame
    · split <;> exact hsame
  · exact hsame
  · exact hsame

theorem mirrorWrite_load (k : Nat) (en : Enables) (data : Line) (s : State) : (mirrorWrite k en data s).load ≤ s.load := by
  unfold mirrorWrite
  split
  · split
    · unfold controlWord
      dsimp only
      split
      · exact Nat.le_refl _
      · exact dispatchRequest_load _ _ { s with mirror := { s.mirror with control := _, lastToggle := _ } }
    all_goals exact Nat.le_refl _
  · exact Nat.le_refl _

theorem verdict_load (w : WriteReq) (s : State) : (verdict w s).2.load = s.load := by
  unfold verdict
  split
  next k _ =>
    obtain ⟨hbusy, hfree⟩ := stagingWrite_cases k w s
    cases hpending : (s.orders.slot k).pending with
    | true => rw [hbusy hpending]; dsimp only; split <;> rfl
    | false =>
      rw [hfree hpending]
      dsimp only
      split
      · unfold post
        split
        · rfl
        · rw [acceptOrder_eq]
          split <;> rfl
      · rfl
  next n _ =>
    unfold frameWrite
    dsimp only
    split
    · rfl
    · split <;> rfl
    · split
      · split <;> rfl
      · rfl
    · rfl
  all_goals rfl

theorem setupWrite_load (k : Nat) (en : Enables) (data : Line) (s : State) : (setupWrite k en data s).2.load ≤ s.load := by
  unfold setupWrite
  dsimp only
  split
  · split
    · exact Nat.zero_le _
    · exact Nat.le_refl _
  · exact Nat.le_refl _

theorem takeWrite_load (w : WriteReq) (s : State) : (takeWrite w s).load ≤ s.load := by
  have hqueueing : (takeQueueing w s).load ≤ s.load := by
    have := verdict_load w s
    unfold takeQueueing
    split <;> next h => rw [h] at this; exact Nat.le_of_eq this
  unfold takeWrite
  split
  · exact Nat.le_refl _
  · split
    · exact Nat.le_refl _
    · exact mirrorWrite_load _ _ _ s
    · split
      · exact hqueueing
      · exact setupWrite_load _ _ _ s
    all_goals exact hqueueing

theorem takeWrite_waiting (w : WriteReq) (s : State) : (takeWrite w s).bus.waiting = s.bus.waiting := by
  obtain ⟨t, -, ⟨a, heq⟩ | ⟨-, heq⟩⟩ := takeWrite_spec w s <;> rw [heq]
  · rfl
  · obtain ⟨q, haccept, -⟩ := Bus.accept_spec w s.bus
    rw [haccept]
    rfl

theorem takeWaiting_weight {w : WriteReq} {s : State} (hw : s.takeable (fun _ => true) = some w) :
    (takeWaiting w s).weight < s.weight := by
  obtain ⟨hmem, -⟩ := State.takeable_spec hw
  have hlength := List.length_erase_of_mem hmem
  have hpos := List.length_pos_of_mem hmem
  have hwaiting : (takeWaiting w s).bus.waiting = s.bus.waiting.erase w := takeWrite_waiting w _
  have hload : (takeWaiting w s).load ≤ s.load := takeWrite_load w _
  simp only [State.weight, hwaiting, hw, Option.isSome_some, true_or, if_true]
  split <;> omega

/-! ## Completion -/

theorem take_weight {h : Happening} {s : State} (hout : s.outstanding = some h) : (take h s).weight < s.weight := by
  rcases take_spec h hout with ⟨w, rfl, hw⟩ | ⟨hnone, hmoves⟩
  · exact takeWaiting_weight hw
  · refine weight_lt hmoves hnone ?_
    have hjam (c : JamCode) (hdriven : s.driven = true) : (s.jamHere c).load ≤ s.load ∧ s.driven = true ∧
        (s.jamHere c).driven = false :=
      ⟨(jam_calm _ _ _ _ s).load, hdriven, by rw [State.jamHere, State.jam_driven hdriven]; rfl⟩
    unfold State.outstanding at hout
    rw [hnone] at hout
    dsimp only at hout
    split at hout
    next e he =>
      cases hout
      obtain ⟨sn, -, hsn⟩ := List.exists_of_findSome?_eq_some he
      refine .inl (takeEdge_lighter ?_)
      unfold State.anyEdge at hsn
      split at hsn
      next hlead => cases hsn; exact State.mem_of_edgeNow hlead
      · exact State.mem_of_edgeNow hsn
    split at hout
    next hd => cases hout; exact .inl (takeExpiry_lighter (List.mem_of_find?_eq_some hd))
    split at hout
    next hp => cases hout; exact .inl (takePitchTick_lighter hp)
    split at hout
    next hstart =>
      cases hout
      simp only [State.startFails, Bool.and_eq_true, beq_iff_eq] at hstart
      exact .inr (hjam _ (by simp [State.driven, hstart.1, PathState.driven]))
    split at hout
    next hstall =>
      cases hout
      simp only [State.stalls, Bool.and_eq_true] at hstall
      exact .inr (hjam _ hstall.1)
    split at hout
    next hidle =>
      cases hout
      simp only [State.idleExpires, Bool.and_eq_true, beq_iff_eq] at hidle
      exact .inr ⟨(enterStopped_calm rfl s).load, by simp [State.driven, hidle.1.1, PathState.driven], rfl⟩
    · cases hout

/-- With fuel for the weight, completion ends with nothing outstanding. -/
theorem settled_settleFuel (n : Nat) {s : State} (h : s.weight ≤ n) : Settled (settleFuel n s) := by
  induction n generalizing s with
  | zero =>
    change s.outstanding = none
    cases hout : s.outstanding with
    | none => rfl
    | some g => exact absurd (take_weight hout) (by omega)
  | succ n ih =>
    unfold settleFuel
    split
    next hnone => exact hnone
    next g hout => exact ih (by have := take_weight hout; omega)

theorem State.weight_le_fuel (s : State) : s.weight ≤ s.fuel := by
  unfold State.weight State.load Clock.load State.fuel
  have : (if (s.takeable fun _ => true).isSome = true ∨ s.driven = true then 1 else 0) ≤ 1 := by split <;> omega
  omega

/-- Settles O3: the fuel is at least the weight, which every taking lowers. -/
theorem settleCompletes : Obligations.SettleCompletes := fun s => settled_settleFuel s.fuel s.weight_le_fuel

end Sys2Proof.Machine

/-! # Proofs: requests before the passage -/

namespace Sys2Proof.Machine

/-! ## How a request reaches its owner -/

/-- A write of a master that is heard is presented in the settled state (R1, R24). -/
theorem exec_busWrite_of_hears {s : State} {w : WriteReq} (hhears : s.settle.hears w.master) :
    exec (.busWrite w) s = .next (presentWrite w s.settle) := by
  obtain ⟨hfree, hperiod⟩ := hhears
  change busRequest w.master (.write w) (presentWrite w) s = _
  simp [busRequest, hfree, hperiod]

/-- A write with an enabled byte that can be taken is taken (R8). -/
theorem presentWrite_of_canTake {u : State} {w : WriteReq} (hen : w.enables ≠ 0) (htake : u.canTake u.bus.waiting w = true) :
    presentWrite w u = takeWrite w u := by
  simp only [presentWrite, if_neg hen, htake, if_true]

/-- A write that does not queue can always be taken (R8). -/
theorem State.canTake_of_not_queueing {u : State} {w : WriteReq} (h : u.queueing w = false) (older : List WriteReq) :
    u.canTake older w = true := by
  simp [State.canTake, State.needsPlace, h]

/-- What queues, of the masters that may write (R2, R8). -/
theorem State.queueing_iff {u : State} {w : WriteReq} (hm : w.master ≠ .fetcher) : u.queueing w = true ↔
    u.region w.line = .other ∨ (u.armed = true ∧ ∃ k, u.region w.line = .setup k) ∨
      (∃ k, u.region w.line = .staging k) ∨ ∃ n, u.region w.line = .frame n := by
  cases hregion : u.region w.line <;> simp [State.queueing, hm, hregion]

/-- A queueing write goes to its owner's verdict (R4). -/
theorem takeWrite_of_queueing {u : State} {w : WriteReq} (h : u.queueing w = true) : takeWrite w u = takeQueueing w u := by
  have hm : w.master ≠ .fetcher := by
    intro hm
    simp [State.queueing, hm] at h
  rcases (State.queueing_iff hm).mp h with hr | ⟨harmed, k, hr⟩ | ⟨k, hr⟩ | ⟨n, hr⟩
  · simp only [takeWrite, if_neg hm, hr]
  · simp only [takeWrite, if_neg hm, hr, harmed, if_true]
  · simp only [takeWrite, if_neg hm, hr]
  · simp only [takeWrite, if_neg hm, hr]

/-- An accepted queueing write joins the write queue and is completed (R5, R7). -/
theorem takeQueueing_accepted {u t : State} {w : WriteReq} (h : verdict w u = (true, t)) :
    takeQueueing w u = { t with bus := (t.bus.accept w).setPort w.master (.answered .completion) } := by
  simp only [takeQueueing, h]
  rfl

/-- A refused queueing write is aborted (R5). -/
theorem takeQueueing_refused {u t : State} {w : WriteReq} (h : verdict w u = (false, t)) :
    takeQueueing w u = { t with bus := t.bus.setPort w.master (.answered .abort) } := by
  simp only [takeQueueing, h]
  rfl

theorem verdict_staging {u : State} {w : WriteReq} {k : Nat} (h : u.region w.line = .staging k) :
    verdict w u = stagingWrite k w u := by simp only [verdict, h]

theorem verdict_frame {u : State} {w : WriteReq} {n : Nat} (h : u.region w.line = .frame n) :
    verdict w u = frameWrite n w u := by simp only [verdict, h]

/-! ## Plain writes (R7, R8) -/

theorem State.queueing_of_plain {u : State} {w : WriteReq} (h : u.plainWrite w) : u.queueing w = true := by
  obtain ⟨hm, -, hregion⟩ := h
  rw [State.queueing_iff hm]
  exact hregion.imp_right .inl

/-- A write without a verdict joins the queue at once and changes nothing else (R4, R7). -/
theorem takeWrite_plain {u : State} {w : WriteReq} (h : u.plainWrite w) :
    takeWrite w u = { u with bus := (u.bus.accept w).setPort w.master (.answered .completion) } := by
  rw [takeWrite_of_queueing (State.queueing_of_plain h)]
  refine takeQueueing_accepted ?_
  obtain ⟨-, -, hr | ⟨-, k, hr⟩⟩ := h <;> simp only [verdict, hr]

/-- The merge of a write into the entry of its line (R7, R10). -/
theorem Bus.accept_merge {b : Bus} {w : WriteReq} (h : b.holdsLine w.line = true) (hdrain : b.drain = true ∨ b.queue.length < 13) :
    b.accept w = { b with queue := b.queue.map fun e => if e.line = w.line then e.merge w (b.readWaits w.line) else e } := by
  simp only [Bus.accept, h, if_true, List.length_map]
  refine if_neg fun hburst => ?_
  rcases hdrain with hd | hd
  · simp [hd] at hburst
  · exact absurd hburst.2 (Nat.not_le.mpr hd)

/-- A new entry at the tail, with the drain burst that 13 entries begin (R7, R10, R12). -/
theorem Bus.accept_append {b : Bus} {w : WriteReq} (h : b.holdsLine w.line = false) :
    b.accept w =
      { b with
        queue := b.queue ++ [⟨w.line, w.data, w.enables, w.master, b.readWaits w.line⟩]
        drain := b.drain || decide (12 ≤ b.queue.length)
        burst := if b.drain = false ∧ 12 ≤ b.queue.length then 0 else b.burst } := by
  obtain ⟨q, heq, hq⟩ := Bus.accept_spec w b
  rw [h, if_neg Bool.false_ne_true] at hq
  rw [heq, hq]
  by_cases hlen : 12 ≤ b.queue.length
  · simp [hlen]
  · simp [hlen, show ¬ 13 ≤ b.queue.length + 1 by omega]

theorem plain_merge {u : State} {w : WriteReq} (hplain : u.plainWrite w) (hline : u.bus.holdsLine w.line = true)
    (hdrain : u.bus.drain = true ∨ u.bus.queue.length < 13) :
    takeWrite w u =
      { u with bus :=
        { u.bus.setPort w.master (.answered .completion) with
          queue := u.bus.queue.map fun e =>
            if e.line = w.line then
              { e with
                data := mergeLine e.data w.data w.enables
                enables := e.enables ||| w.enables
                promoted := e.promoted || u.bus.readWaits w.line }
            else e } } := by
  rw [takeWrite_plain hplain, Bus.accept_merge hline hdrain]
  rfl

theorem plain_append {u : State} {w : WriteReq} (hplain : u.plainWrite w) (hline : u.bus.holdsLine w.line = false) :
    takeWrite w u =
      { u with bus :=
        { u.bus.setPort w.master (.answered .completion) with
          queue := u.bus.queue ++ [⟨w.line, w.data, w.enables, w.master, u.bus.readWaits w.line⟩]
          drain := u.bus.drain || decide (12 ≤ u.bus.queue.length)
          burst := if u.bus.drain = false ∧ 12 ≤ u.bus.queue.length then 0 else u.bus.burst } } := by
  rw [takeWrite_plain hplain, Bus.accept_append hline]
  rfl

/-- Settles O22: with a place the write is taken at once, and a write without a verdict is only queued; without one no owner sees it. -/
theorem plainWriteQueued : Obligations.PlainWriteQueued := by
  intro s u w hsettle hhears
  subst hsettle
  rw [exec_busWrite_of_hears hhears]
  refine ⟨fun hplain => ⟨fun hline hdrain => ?_, fun hline hplace => ?_⟩, fun hqueueing hline hplace => ?_⟩
  · rw [presentWrite_of_canTake hplain.2.1 (State.canTake_of_hasPlace (.inl hline)), plain_merge hplain hline hdrain]
  · rw [presentWrite_of_canTake hplain.2.1 (State.canTake_of_hasPlace hplace), plain_append hplain hline]
  · obtain ⟨hm, hen, hregion⟩ := hqueueing
    have hq : s.settle.queueing w = true := (State.queueing_iff hm).mpr hregion
    have hwait : ¬ s.settle.canTake s.settle.bus.waiting w = true := fun h => hplace (State.hasPlace_of_canTake hq h)
    simp only [presentWrite, if_neg hen, if_neg hwait]
    rfl

/-! ## Waiting writes (R8) -/

/-- The waiting write of a master is found past the writes of other masters. -/
theorem takeableFrom_skip {s : State} {want : WriteReq → Bool} {w : WriteReq} (hw : want w = true) (rest before older : List WriteReq)
    (hothers : ∀ o ∈ older, want o = false) (htake : s.canTake (before ++ older) w = true) :
    takeableFrom s want before (older ++ w :: rest) = some w := by
  induction older generalizing before with
  | nil =>
    rw [List.append_nil] at htake
    simp only [List.nil_append, takeableFrom, hw, htake, Bool.and_self, if_true]
  | cons o os ih =>
    have ho : want o = false := hothers o (by simp)
    simp only [List.cons_append, takeableFrom, ho, Bool.false_and, Bool.false_eq_true, if_false]
    exact ih (before ++ [o]) (fun x hx => hothers x (by simp [hx])) (by simpa using htake)

/-- Settles O23: the write is the first of its master's that can be taken; without a verdict its effect is the plain write's. -/
theorem waitingWriteIsTaken : Obligations.WaitingWriteIsTaken := by
  intro s w older rest hwaiting hmasters hroom
  have htake : s.canTake older w = true := by
    simp only [State.canTake, State.needsPlace, Bool.or_eq_true, Bool.and_eq_true, Bool.not_eq_true', Bool.and_eq_false_iff,
      decide_eq_true_eq, List.any_eq_false, Bool.not_eq_false', not_and]
    rcases hroom with hline | hq | ⟨hlength, holder⟩
    · exact .inl (.inr hline)
    · exact .inl (.inl hq)
    · refine .inr ⟨hlength, fun o ho hqo => ?_⟩
      rcases holder o ho with h | h
      · simp [h] at hqo
      · simp [h]
  have hfound : s.takeable (fun x => x.master == w.master) = some w := by
    rw [State.takeable, hwaiting]
    exact takeableFrom_skip (by simp) rest [] older (fun o ho => by simpa using hmasters o ho) htake
  have hout : w ∉ older := fun h => hmasters w h rfl
  have herase : s.bus.waiting.erase w = older ++ rest := by
    rw [hwaiting, List.erase_append_right _ hout, List.erase_cons_head]
  have hexec : exec (.waitingWriteTaken w.master) s =
      .next (takeWrite w { s with bus := { s.bus with waiting := older ++ rest } }) := by
    change execWaitingWriteTaken w.master s = _
    simp only [execWaitingWriteTaken, hfound, takeWaiting, State.onBus, herase]
  refine ⟨hexec, fun hplain hline hdrain => ?_, fun hplain hline => ?_⟩
  · rw [hexec]
    exact congrArg _ (plain_merge (u := { s with bus := { s.bus with waiting := older ++ rest } }) hplain hline hdrain)
  · rw [hexec]
    exact congrArg _ (plain_append (u := { s with bus := { s.bus with waiting := older ++ rest } }) hplain hline)

/-! ## Reads (R9, R10) -/

/-- Settles O24: every region that passes a read passes it in the same way. -/
theorem readPasses : Obligations.ReadPasses := by
  intro s u r frameRead hsettle hhears hen hpasses
  subst hsettle
  rw [exec_busRead_of_hears hhears]
  have hpass : presentRead r s.settle = passRead r frameRead s.settle := by
    unfold State.passes at hpasses
    simp only [presentRead, if_neg hen]
    cases hregion : s.settle.region r.line with
    | setup k =>
      rw [hregion] at hpasses
      simp only [hpasses.1, hpasses.2, if_true]
    | staging k =>
      rw [hregion] at hpasses
      simp only [show frameRead = false from hpasses]
    | other =>
      rw [hregion] at hpasses
      simp only [show frameRead = false from hpasses]
    | frame n =>
      rw [hregion] at hpasses
      dsimp only at hpasses ⊢
      split at hpasses
      next hm => simp only [if_pos hm, hpasses.1, hpasses.2, if_true]
      next hm => simp only [if_neg hm, hpasses]
    | mirror k => rw [hregion] at hpasses; exact hpasses.elim
    | beyond => rw [hregion] at hpasses; exact hpasses.elim
  rw [hpass]
  rfl

/-! ## Guard aborts and range faults (R4, R6) -/

/-- A write of the fetcher is a guard abort wherever it falls (R4). -/
theorem takeWrite_of_fetcher {u : State} {w : WriteReq} (hm : w.master = .fetcher) :
    takeWrite w u = (u.guardAbort (u.guardTarget w.line) w.master).answer w.master .abort := by
  simp only [takeWrite, if_pos hm]

/-- Settles O20: the fetcher's write queues nowhere, and the two owners refuse what they guard. -/
theorem guardAborts : Obligations.GuardAborts := by
  intro s u w target hsettle hhears hen hcases
  subst hsettle
  rw [exec_busWrite_of_hears hhears]
  rcases hcases with ⟨hm, htarget⟩ | ⟨hm, hplace, howner⟩
  · have hq : s.settle.queueing w = false := by simp [State.queueing, hm]
    have hguard : s.settle.guardTarget w.line = target := htarget.symm
    rw [presentWrite_of_canTake hen (State.canTake_of_not_queueing hq _), takeWrite_of_fetcher hm, hguard]
    rfl
  · rw [presentWrite_of_canTake hen (State.canTake_of_hasPlace hplace)]
    rcases howner with ⟨n, hregion, hbound, rfl⟩ | ⟨k, hregion, hpending, hpost, rfl⟩
    · have hq := (State.queueing_iff hm).mpr (.inr (.inr (.inr ⟨n, hregion⟩)))
      have hrefuse : verdict w s.settle = (false, s.settle.guardAbort (.frame n) w.master) := by
        simp only [verdict_frame hregion, frameWrite, hbound]
      rw [takeWrite_of_queueing hq, takeQueueing_refused hrefuse]
      rfl
    · have hq := (State.queueing_iff hm).mpr (.inr (.inr (.inl ⟨k, hregion⟩)))
      have hrefuse : verdict w s.settle = (false, s.settle.guardAbort (.slot k) w.master) := by
        rw [verdict_staging hregion, (stagingWrite_cases k w s.settle).1 hpending, hpost, if_neg Bool.false_ne_true]
      rw [takeWrite_of_queueing hq, takeQueueing_refused hrefuse]
      rfl

theorem State.region_beyond {u : State} {l : LineNo} (harmed : u.armed = true) (h : u.setup.memorySize ≤ lineAddress l) :
    u.region l = .beyond := by
  simp only [State.region, harmed, if_true, Setup.region, if_pos h]

/-- Settles O21: the armed decode puts such an address beyond memory first, and the unconfigured one never does. -/
theorem beyondMemory : Obligations.BeyondMemory := by
  intro s u hsettle
  subst hsettle
  refine ⟨fun w hhears harmed hen hm hbeyond => ?_, fun r hhears harmed hen hbeyond => ?_, fun harmed line => ?_⟩
  · have hregion := State.region_beyond harmed hbeyond
    have hq : s.settle.queueing w = false := by simp [State.queueing, hregion]
    rw [exec_busWrite_of_hears hhears, presentWrite_of_canTake hen (State.canTake_of_not_queueing hq _)]
    simp only [takeWrite, if_neg hm, hregion]
    rfl
  · refine ⟨packBytes fun _ => 0xFF, ?_, fun i hi => byteAt_packBytes _ i hi⟩
    rw [exec_busRead_of_hears hhears]
    simp only [presentRead, if_neg hen, State.region_beyond harmed hbeyond]
    rfl
  · simp only [State.region, harmed, Bool.false_eq_true, if_false, unconfiguredRegion]
    split <;> simp

/-! ## Control words -/

/-- The row of a request code is that code's control word (11.3). -/
theorem exec_controlRow (code a b x : Byte) (m : Master) (s : State) :
    exec (controlRow code m a b x) s = mirrorCommand m (controlWord code a b x) s := by
  have hcode (n : Nat) (c : Byte) (hc : c.toNat = n) (h : code.toNat = n) : code = c := BitVec.eq_of_toNat_eq (h.trans hc.symm)
  unfold controlRow
  split
  next h => rw [hcode 1 1 rfl h]; rfl
  next h => rw [hcode 2 2 rfl h]; rfl
  next h => rw [hcode 3 3 rfl h]; rfl
  next h => rw [hcode 4 4 rfl h]; rfl
  next h => rw [hcode 5 5 rfl h]; rfl
  next h => rw [hcode 6 6 rfl h]; rfl
  next h => rw [hcode 7 7 rfl h]; rfl
  next h => rw [hcode 8 8 rfl h]; rfl
  next h => rw [hcode 9 9 rfl h]; rfl
  next h => rw [hcode 10 10 rfl h]; rfl
  next => rfl

/-- A request in a reset period is held (R24), and a held master's request is the fault of log 4. -/
theorem busRequest_cases (m : Master) (q : Request) (f : State → State) (s : State) :
    (s.settle.busHeld m = false → s.settle.inReset = true → busRequest m q f s = .next
      { s.settle with bus :=
        { s.settle.bus.setPort m .held with heldRequests := s.settle.bus.heldRequests ++ [q] } }) ∧
    (s.settle.busHeld m = true → busRequest m q f s = .fault (.masterHeld m)) := by
  refine ⟨fun hfree hperiod => ?_, fun hheld => ?_⟩
  · simp only [busRequest, hfree, hperiod, Bool.false_eq_true, if_true, if_false]
    rfl
  · simp only [busRequest, hheld, if_true]

/-- Settles O16: the cases of a request before it is taken. -/
theorem requestsAnsweredOrHeld : Obligations.RequestsAnsweredOrHeld := by
  intro s u hsettle
  subst hsettle
  refine ⟨fun w hhears hen => ?_, fun r hhears hen => ?_, fun w => ?_, fun r => ?_, fun w => ?_, fun r => ?_, ?_⟩
  · rw [exec_busWrite_of_hears hhears]
    simp only [presentWrite, if_pos hen]
    rfl
  · rw [exec_busRead_of_hears hhears]
    simp only [presentRead, if_pos hen]
    exact ⟨_, rfl⟩
  · exact (busRequest_cases w.master (.write w) (presentWrite w) s).1
  · exact (busRequest_cases r.master (.read r) (presentRead r) s).1
  · exact (busRequest_cases w.master (.write w) (presentWrite w) s).2
  · exact (busRequest_cases r.master (.read r) (presentRead r) s).2
  · intro m code a b x hfree harmed
    rw [exec_controlRow]
    simp [mirrorCommand, hfree, harmed]

/-- A full write of a request word enables a byte. -/
theorem enables_ne_zero_of_word {en : Enables} (h : enablesWord en 0 = true) : en ≠ 0 := by
  rintro rfl
  simp [enablesWord] at h

/-- A write to the mirror is the mirror's command (R4, R166). -/
theorem exec_busWrite_mirror {s : State} {w : WriteReq} {k : Nat} (hperiod : s.settle.inReset = false)
    (harmed : s.settle.armed = true) (hen : w.enables ≠ 0) (hregion : s.settle.region w.line = .mirror k) :
    exec (.busWrite w) s = mirrorCommand w.master (mirrorWrite k w.enables w.data) s := by
  have hq : s.settle.queueing w = false := by simp [State.queueing, hregion]
  change busRequest w.master (.write w) (presentWrite w) s = _
  simp only [busRequest, mirrorCommand, hperiod, harmed, Bool.not_true, Bool.or_self, Bool.false_eq_true, if_false]
  rw [presentWrite_of_canTake hen (State.canTake_of_not_queueing hq _)]
  split
  · rfl
  · by_cases hm : w.master = .fetcher
    · rw [takeWrite_of_fetcher hm, if_pos hm, State.guardTarget, hregion]
    · rw [if_neg hm]
      simp only [takeWrite, if_neg hm, hregion]

/-- Settles O59: both are the mirror's command with the same word. -/
theorem requestWordsAreBusWrites : Obligations.RequestWordsAreBusWrites := by
  intro s u w hsettle hperiod harmed hword
  subst hsettle
  have hen := enables_ne_zero_of_word hword
  refine ⟨fun hregion => ?_, fun hregion => ?_, fun hregion => ?_⟩
  · rw [exec_busWrite_mirror hperiod harmed hen hregion, exec_controlRow]
    congr 1
    funext u
    simp only [mirrorWrite, hword, if_true]
  · rw [exec_busWrite_mirror hperiod harmed hen hregion]
    change _ = mirrorCommand w.master (eventsTakenWord (byteAt w.data 0) (lineField w.data 1 3)) s
    congr 1
    funext u
    simp only [mirrorWrite, hword, if_true]
  · rw [exec_busWrite_mirror hperiod harmed hen hregion]
    change _ = mirrorCommand w.master (clearStandingWord (byteAt w.data 0) (lineField w.data 1 3)) s
    congr 1
    funext u
    simp only [mirrorWrite, hword, if_true]

end Sys2Proof.Machine

/-! # Proofs: resets, setup and the memory port -/

namespace Sys2Proof.Machine

/-! ## Hardware resets (R22 to R24) -/

/-- With an empty table no tray is picked from (R116). -/
theorem State.pick_of_empty {s : State} (h : s.track.table = []) : Vector.ofFn s.pick = Vector.replicate 4 false := by
  apply Vector.ext
  intro i hi
  simp [State.pick, h]

/-- In a reset period with power, only PACE_HOLD is high (R24). -/
theorem State.outputs_of_reset {s : State} (hpower : s.pins.powerGood = true) (hperiod : s.inReset = true)
    (hpath : s.seqr.path = .unconfigured) (htrack : s.track = .reset 0) (hhold : s.frames.hold = true) :
    s.outputs = ⟨false, false, Vector.replicate 4 false, false, false, false, true, false⟩ := by
  have hpick : Vector.ofFn s.pick = Vector.replicate 4 false := State.pick_of_empty (by rw [htrack]; rfl)
  simp only [State.outputs, hpower, if_true, hpick, State.attention, hperiod, State.driven, hpath, htrack, hhold]
  rfl

/-- Settles O14: the reset commands write every block's reset value, and the lines are computed from them. -/
theorem hardwareResets : Obligations.HardwareResets := by
  intro s u hsettle
  subst hsettle
  refine ⟨fun resetN => ⟨_, rfl, rfl, rfl⟩, fun hout => ?_, fun hreset => ?_⟩
  · have hpower : s.settle.pins.powerGood = true := by
      simp only [State.inReset, Bool.not_eq_false', Bool.and_eq_true] at hout
      exact hout.1
    refine ⟨_, ?_, rfl, State.outputs_of_reset hpower (by simp [State.inReset]) rfl rfl rfl⟩
    change execLineReset s = _
    simp only [execLineReset, hout, Bool.false_eq_true, if_false]
    rfl
  · change execLineReset s = _
    simp only [execLineReset, hreset, if_true]

/-- Settles O15: the held requests are presented one after another to the state out of reset. -/
theorem resetPeriodEnds : Obligations.ResetPeriodEnds := by
  intro s u hsettle hpower hlow
  subst hsettle
  change execResetPeriodEnd s = _
  simp only [execResetPeriodEnd, hpower, hlow, Bool.not_false, Bool.and_self, if_true]
  rfl

/-! ## The setup area while UNCONFIGURED (R16 to R20) -/

/-- The unconfigured decode of one of the eight setup lines (R2). -/
theorem State.region_setupLine {u : State} (harmed : u.armed = false) (block : Fin 8) :
    u.region (BitVec.ofNat 27 block.val) = .setup block.val := by
  have haddr : lineAddress (BitVec.ofNat 27 block.val) = block.val * 32 := by
    simp only [lineAddress, BitVec.toNat_ofNat]
    omega
  simp only [State.region, harmed, Bool.false_eq_true, if_false, unconfiguredRegion, haddr]
  rw [if_pos (by omega), Nat.mul_div_cancel _ (by decide)]

/-- A write to a setup line while UNCONFIGURED goes to the latch, which answers it (R2, R5). -/
theorem presentWrite_setup {u : State} {w : WriteReq} (block : Fin 8) (harmed : u.armed = false) (hm : w.master ≠ .fetcher)
    (hen : w.enables ≠ 0) (hline : w.line = BitVec.ofNat 27 block.val) :
    presentWrite w u = (setupWrite block.val w.enables w.data u).2.answer w.master (setupWrite block.val w.enables w.data u).1 := by
  have hregion : u.region w.line = .setup block.val := hline ▸ State.region_setupLine harmed block
  have hq : u.queueing w = false := by simp [State.queueing, hregion, harmed]
  rw [presentWrite_of_canTake hen (State.canTake_of_not_queueing hq _)]
  simp only [takeWrite, if_neg hm, hregion, harmed, Bool.false_eq_true, if_false]

/-- The read-only byte 252 is byte 28 of line 7 (R16, R174). -/
theorem captureEnables_eq (block : Fin 8) (en : Enables) :
    captureEnables block.val en = if block = 7 then en &&& 0xEFFFFFFF#32 else en := by
  have hseven : block.val = 7 ↔ block = 7 := by rw [Fin.ext_iff]; rfl
  have hmask : ~~~(1#32 <<< 28) = 0xEFFFFFFF#32 := by decide
  simp only [captureEnables, hseven, hmask]

/-- The bytes that an answered read enables are those read (R165). -/
theorem byteAt_answerBytes (s : State) (en : Enables) (f : Nat → Byte) {i : Nat} (hi : i < 32) (hen : en.getLsbD i = true) :
    byteAt (s.answerBytes en f) i = f i := by
  simp only [State.answerBytes, byteAt_packBytes _ i hi, hen, if_true]

/-- Settles O17: the latch captures the write, and answers the read from its image. -/
theorem setupWriteCaptured : Obligations.SetupWriteCaptured := by
  refine ⟨fun s u m block en data hsettle hhears harmed hm hen hattempt => ?_, fun s u r block hsettle hhears harmed hen hline => ?_⟩
  · subst hsettle
    change exec (.busWrite (setupRequest m block en data)) s = _
    rw [exec_busWrite_of_hears (w := setupRequest m block en data) hhears,
      presentWrite_setup (w := setupRequest m block en data) block harmed hm hen rfl]
    have hcapture : captureImage s.settle.latch.image block.val en data = s.settle.latch.image.set block
        (mergeLine s.settle.latch.image[block] data (if block = 7 then en &&& 0xEFFFFFFF#32 else en)) := by
      rw [← captureEnables_eq]
      apply Vector.ext
      intro i hi
      simp [captureImage, Vector.getElem_setIfInBounds, Vector.getElem_set]
    have hwrite : setupWrite block.val en data s.settle = (.completion, { s.settle with
        latch := { s.settle.latch with image := captureImage s.settle.latch.image block.val en data } }) := by
      simp only [setupWrite, hattempt, Bool.false_eq_true, if_false]
    change Host.Outcome.next ((setupWrite block.val en data s.settle).2.answer m _) = _
    rw [← hcapture]
    simp only [setupRequest, hwrite]
    rfl
  · subst hsettle
    have hregion : s.settle.region r.line = .setup block.val := hline ▸ State.region_setupLine harmed block
    refine ⟨s.settle.answerBytes r.enables (imageRead s.settle.latch block.val), ?_, fun i hi hbyte => ?_⟩
    · rw [exec_busRead_of_hears hhears]
      simp only [presentRead, if_neg hen, hregion, harmed, Bool.false_eq_true, if_false]
      rfl
    · rw [byteAt_answerBytes _ _ _ hi hbyte]
      have hseven : block.val = 7 ↔ block = 7 := by rw [Fin.ext_iff]; rfl
      refine ⟨fun hother => ?_, fun hblock hi28 => ?_⟩
      · simp only [imageRead, hseven, if_neg hother]
        simp
      · have hresult : imageRead s.settle.latch block.val i = s.settle.latch.armResult.code :=
          if_pos ⟨hseven.mpr hblock, hi28⟩
        rw [hresult]
        cases s.settle.latch.armResult <;> rfl

/-- The attempt of ARM reaches the latch as a write of line 7 (R17). -/
theorem exec_arm_of_hears {s : State} {m : Master} {en : Enables} {data : Line} (hhears : s.settle.hears m)
    (harmed : s.settle.armed = false) (hm : m ≠ .fetcher) :
    exec (.arm m en data) s = .next
      ((setupWrite 7 (armRequest m en data).enables (armRequest m en data).data s.settle).2.answer m
        (setupWrite 7 (armRequest m en data).enables (armRequest m en data).data s.settle).1) := by
  change exec (.busWrite (armRequest m en data)) s = _
  have hen : (armRequest m en data).enables ≠ 0 := by
    intro h
    have := congrArg (fun e : Enables => e.getLsbD 24) h
    simp [armRequest] at this
  rw [exec_busWrite_of_hears (w := armRequest m en data) hhears,
    presentWrite_setup (w := armRequest m en data) 7 harmed hm hen rfl]
  rfl

/-- A failed attempt is aborted with its result (R18). -/
theorem setupWrite_failed {en : Enables} {data : Line} {u : State} {r : ArmResult} (hattempt : isArmAttempt 7 en data = true)
    (hresult : validate (setupOf (captureImage u.latch.image 7 en data)) = r) (hr : r ≠ .passed) :
    setupWrite 7 en data u = (.abort, { u with latch := { u.latch with armResult := r } }) := by
  simp only [setupWrite, hattempt, if_true, hresult]

/-- A passed attempt is accepted with the image and the values it brings (R20). -/
theorem setupWrite_passed {en : Enables} {data : Line} {u : State} {image : Vector Line 8}
    (hattempt : isArmAttempt 7 en data = true) (himage : captureImage u.latch.image 7 en data = image)
    (hpass : validate (setupOf image) = .passed) :
    setupWrite 7 en data u = (.completion, u.armAccept image (setupOf image)) := by
  simp only [setupWrite, hattempt, if_true, himage, hpass]

/-- A passed validation's frame count is above the low mark, so the armed table releases (R18, R48). -/
theorem Frames.armed_hold {v : Setup} (hpass : validate v = .passed) (hold : Bool) : (Frames.armed v hold).hold = false := by
  obtain ⟨-, -, hlow, hhigh⟩ := validate_marks hpass
  have hcount : ¬ v.frameCount ≤ v.paceLow := by omega
  exact (if_neg hcount).trans (if_pos hhigh)

/-- Settles O18: the latch hands the starting values to every block. -/
theorem armPasses : Obligations.ArmPasses := by
  intro s u m en data image v start hsettle hhears harmed hm himage hv hpass hstart
  subst hsettle hv
  obtain ⟨-, hcount, -, -⟩ := validate_marks hpass
  refine ⟨_, exec_arm_of_hears hhears harmed hm, ?_⟩
  rw [setupWrite_passed (armRequest_isArmAttempt m en data) himage.symm hpass, hstart]
  exact ⟨rfl, rfl, rfl, Frames.armed_hold hpass _, fun n => Frames.at_armed _ _ hcount n⟩

/-- The validation's result is the first failing check's (R18). -/
theorem validate_first {v : Setup} {before after : List (Bool × ArmResult)} {c : Bool × ArmResult}
    (hchecks : setupChecks v = before ++ c :: after) (hbefore : ∀ b ∈ before, b.1 = true) (hc : c.1 = false) :
    validate v = c.2 := by
  have hskip : before.find? (fun c => !c.1) = none := List.find?_eq_none.mpr fun b hb => by simp [hbefore b hb]
  have hfind : (setupChecks v).find? (fun c => !c.1) = some c := by
    rw [hchecks, List.find?_append, hskip, Option.none_or, List.find?_cons_of_pos (by simp [hc])]
  simp only [validate, hfind]

/-- No check fails with PASSED (R18). -/
theorem setupChecks_ne_passed {v : Setup} {c : Bool × ArmResult} (h : c ∈ setupChecks v) : c.2 ≠ .passed := by
  have hall : ((setupChecks v).all fun x => x.2 != .passed) = true := rfl
  simpa using List.all_eq_true.mp hall c h

/-- Settles O19: no check's own result is PASSED, so the attempt is aborted with it. -/
theorem armFails : Obligations.ArmFails := by
  intro s u m en data image hsettle hhears harmed hm himage before c after hchecks hbefore hc
  subst hsettle himage
  have hresult := validate_first hchecks hbefore hc
  have hr : c.2 ≠ .passed := setupChecks_ne_passed (hchecks.symm ▸ List.mem_append_right before List.mem_cons_self)
  rw [exec_arm_of_hears hhears harmed hm, setupWrite_failed (armRequest_isArmAttempt m en data) hresult hr]
  rfl

/-! ## The memory port (R11 to R15) -/

/-- What leaves the queue counts in a drain burst, which ends at 4 or with the queue empty (R12). -/
theorem Bus.afterIssue_eq (q : List QueueEntry) (b : Bus) :
    b.afterIssue q =
      { b with
        queue := q
        drain := b.drain && !q.isEmpty && (decide (b.burst + 1 < 4) || decide (13 ≤ q.length))
        burst := if b.drain then (if q ≠ [] ∧ b.burst + 1 < 4 then b.burst + 1 else 0) else b.burst } := by
  obtain ⟨-, reads, waiting, port, drain, burst, masters, held⟩ := b
  unfold Bus.afterIssue
  cases drain with
  | false => simp
  | true =>
    cases q with
    | nil => simp
    | cons e es =>
      by_cases hb : burst + 1 < 4
      · simp [hb, show ¬ 3 ≤ burst by omega]
      · simp [hb, show 3 ≤ burst by omega]

/-- The five items in their order (R11). -/
def Bus.Chosen (b : Bus) (i : Issue) : Prop :=
  match b.queue.find? (·.promoted), b.reads.find? (fun r => r.master == .fetcher && b.ready r) with
  | some e, _ => i = .write e
  | none, some r => i = .read r
  | none, none =>
    match b.drain, b.queue, b.reads.find? b.ready with
    | true, e :: _, _ => i = .write e
    | _, _, some r => i = .read r
    | false, e :: _, none => i = .write e
    | _, [], none => False

theorem Bus.choose_of_chosen {b : Bus} {i : Issue} (h : b.Chosen i) : b.choose = some i := by
  unfold Bus.Chosen at h
  unfold Bus.choose
  cases hpromoted : b.queue.find? QueueEntry.promoted with
  | some e =>
    rw [hpromoted] at h
    simp only [show i = .write e from h]
  | none =>
    rw [hpromoted] at h
    cases hfetch : b.reads.find? fun r => r.master == .fetcher && b.ready r with
    | some r =>
      rw [hfetch] at h
      simp only [show i = .read r from h]
    | none =>
      rw [hfetch] at h
      unfold Bus.drainEntry
      cases hdrain : b.drain <;> cases hqueue : b.queue <;> cases hready : b.reads.find? b.ready <;>
        simp_all

/-- Settles O26: the passage's choice is the first of the five items. -/
theorem portIssuesInOrder : Obligations.PortIssuesInOrder := by
  intro s u hsettle hport issued hchosen
  subst hsettle
  have hchoose : s.settle.bus.choose = some issued := Bus.choose_of_chosen hchosen
  have hnext : exec .memoryIssue s = .next { s.settle with bus := s.settle.bus.issue issued } := by
    change Host.Outcome.next (issueNext s.settle) = _
    simp only [issueNext, hport, hchoose]
    rfl
  rw [hnext]
  cases issued with
  | read r => rfl
  | write e => exact congrArg (fun b => Host.Outcome.next { s.settle with bus := b }) (Bus.afterIssue_eq _ _)

/-- Settles O27: each answer frees the port in the settled state. -/
theorem memoryAnswersTaken : Obligations.MemoryAnswersTaken := by
  intro s u hsettle
  subst hsettle
  refine ⟨fun m data hport => ?_, fun e hport => ?_, fun hport data c hc => ?_, fun m r hport hread => ?_⟩
  · change Host.Outcome.next (takeReadResponse data s.settle) = _
    simp only [takeReadResponse, hport]
    rfl
  · change Host.Outcome.next (takeWriteResponse s.settle) = _
    simp only [takeWriteResponse, hport]
    rfl
  · simp only [List.mem_cons, List.not_mem_nil, or_false] at hc
    rcases hc with rfl | rfl | rfl | rfl
    · change Host.Outcome.next (takeReadResponse data s.settle) = _
      simp only [takeReadResponse, hport]
      rfl
    · change Host.Outcome.next (takeReadError s.settle) = _
      simp only [takeReadError, hport]
      rfl
    · change Host.Outcome.next (takeWriteResponse s.settle) = _
      simp only [takeWriteResponse, hport]
      rfl
    · change Host.Outcome.next (takeWriteError s.settle) = _
      simp only [takeWriteError, hport]
      rfl
  · change Host.Outcome.next (takeReadError s.settle) = _
    simp only [takeReadError, hport, Bus.readOf, hread]
    cases r.frameRead <;> rfl

end Sys2Proof.Machine

/-! # Proofs: frames and sheet orders -/

namespace Sys2Proof.Machine

/-! ## Writes to frames (R30 to R34) -/

/-- A write with a place is taken by its owner's verdict (R4, R8). -/
theorem exec_busWrite_of_hasPlace {s : State} {w : WriteReq} (hhears : s.settle.hears w.master) (hen : w.enables ≠ 0)
    (hplace : s.settle.hasPlace w) : exec (.busWrite w) s = .next (takeWrite w s.settle) := by
  rw [exec_busWrite_of_hears hhears, presentWrite_of_canTake hen (State.canTake_of_hasPlace hplace)]

/-- The frame table after an accepted write to frame `n` (R33, R34). -/
def Frames.written (u : Setup) (n : Nat) (w : WriteReq) (f : Frames) : Frames :=
  match (f.at n).state with
  | .bound => f
  | .absent => f
  | .free =>
    if isCommit u n w = true ∧ commitToggle w ≠ (f.at n).toggle then
      Frames.setFree u (f.free - 1) (f.put n ((f.at n).commit (commitToggle w)))
    else f
  | .ready =>
    if isCommit u n w = true then
      if commitToggle w ≠ (f.at n).toggle then f.put n ((f.at n).commit (commitToggle w)) else f
    else f.freeUp u n

theorem frameWrite_of_not_bound {n : Nat} {w : WriteReq} {s : State} (h : (s.frames.at n).state ≠ .bound) :
    frameWrite n w s = (true, { s with frames := s.frames.written s.setup n w }) := by
  unfold Frames.written
  simp only [frameWrite]
  cases hstate : (s.frames.at n).state with
  | bound => exact absurd hstate h
  | absent => rfl
  | free =>
    simp only [Bool.and_eq_true, bne_iff_ne]
    split <;> rfl
  | ready =>
    simp only [bne_iff_ne]
    split
    · split <;> rfl
    · rfl

/-- The window list stays, and so does every other frame. -/
theorem Frames.written_frame (u : Setup) {n : Nat} (hn : n < 64) (w : WriteReq) (f : Frames) :
    (f.written u n w).window = f.window ∧ ∀ k, k ≠ n → (f.written u n w).at k = f.at k := by
  have hput (r : FrameRecord) (k : Nat) (hk : k ≠ n) : (f.put n r).at k = f.at k := by rw [Frames.at_put _ _ _ hn, if_neg hk]
  unfold Frames.written
  split
  · exact ⟨rfl, fun _ _ => rfl⟩
  · exact ⟨rfl, fun _ _ => rfl⟩
  · split
    · exact ⟨rfl, hput _⟩
    · exact ⟨rfl, fun _ _ => rfl⟩
  · split
    · split
      · exact ⟨rfl, hput _⟩
      · exact ⟨rfl, fun _ _ => rfl⟩
    · exact ⟨rfl, hput _⟩

/-- The pace state is evaluated exactly with a change of the free-frame count (R48). -/
theorem Frames.written_hold (u : Setup) (n : Nat) (w : WriteReq) (f : Frames) (hfree : (f.at n).state = .free → 0 < f.free) :
    ((f.written u n w).free = f.free → (f.written u n w).hold = f.hold) ∧
    ((f.written u n w).free ≠ f.free → (f.written u n w).hold =
      if (f.written u n w).free ≤ u.paceLow then true else if u.paceHigh ≤ (f.written u n w).free then false else f.hold) := by
  have hkeep : (f.free = f.free → f.hold = f.hold) ∧ (f.free ≠ f.free → f.hold =
      if f.free ≤ u.paceLow then true else if u.paceHigh ≤ f.free then false else f.hold) := ⟨fun _ => rfl, fun h => absurd rfl h⟩
  have hset (g : Frames) (k : Nat) (hhold : g.hold = f.hold) (hk : k ≠ f.free) :
      ((Frames.setFree u k g).free = f.free → (Frames.setFree u k g).hold = f.hold) ∧
      ((Frames.setFree u k g).free ≠ f.free → (Frames.setFree u k g).hold =
        if (Frames.setFree u k g).free ≤ u.paceLow then true else if u.paceHigh ≤ (Frames.setFree u k g).free then false
          else f.hold) := by
    refine ⟨fun h => absurd h hk, fun _ => ?_⟩
    rw [← hhold]
    rfl
  unfold Frames.written
  split
  next => exact hkeep
  next => exact hkeep
  next h =>
    split
    · exact hset _ _ rfl (by have := hfree h; omega)
    · exact hkeep
  next =>
    split
    · split <;> exact hkeep
    · exact hset _ _ rfl (by omega)

/-- A FREE or READY frame by the kind of write: a new commit, a repeat, or no commit (R33, R34). -/
theorem Frames.written_at (u : Setup) {n : Nat} (hn : n < 64) (w : WriteReq) (f : Frames)
    (hstate : (f.at n).state = .free ∨ (f.at n).state = .ready) :
    (isCommit u n w = true → commitToggle w ≠ (f.at n).toggle →
      (f.written u n w).at n = ⟨.ready, (f.at n).count, (f.at n).generation + 1, commitToggle w⟩ ∧
      (f.written u n w).free = if (f.at n).state = .free then f.free - 1 else f.free) ∧
    (isCommit u n w = true → commitToggle w = (f.at n).toggle →
      (f.written u n w).at n = f.at n ∧ (f.written u n w).free = f.free) ∧
    (isCommit u n w = false →
      (f.written u n w).at n = { f.at n with state := .free } ∧
      (f.written u n w).free = if (f.at n).state = .free then f.free else f.free + 1) := by
  have hput (r : FrameRecord) : (f.put n r).at n = r := by rw [Frames.at_put _ _ _ hn, if_pos rfl]
  have hself : (f.at n).state = .free → f.at n = { f.at n with state := .free } := fun h => by rw [← h]
  unfold Frames.written
  rcases hstate with h | h
  · refine ⟨fun hc ht => ?_, fun hc ht => ?_, fun hc => ?_⟩
    · simp only [h, hc, ht, ne_eq, not_false_eq_true, and_self, if_true]
      exact ⟨hput _, rfl⟩
    · simp [h, hc, ht]
    · simp only [h, hc, Bool.false_eq_true, false_and, if_false, if_true]
      exact ⟨hself h, trivial⟩
  · refine ⟨fun hc ht => ?_, fun hc ht => ?_, fun hc => ?_⟩
    · simp only [h, hc, ht, ne_eq, not_false_eq_true, if_true, reduceCtorEq, if_false]
      exact ⟨hput _, rfl⟩
    · simp [h, hc, ht]
    · simp only [h, hc, Bool.false_eq_true, reduceCtorEq, if_false]
      exact ⟨hput _, rfl⟩

/-- Settles O29: with a FREE frame the free-frame count is not 0, so a change of it is seen. -/
theorem commitAndDemotion : Obligations.CommitAndDemotion := by
  intro s u w n r hsettle hhears hen hm hplace hregion hr hn hbound hinv
  subst hsettle hr
  obtain ⟨-, -, hcount, -⟩ := hinv
  have hfree : (s.settle.frames.at n).state = .free → 0 < s.settle.frames.free := fun h =>
    hcount ▸ (Frames.countFree_pos h).2
  have hq := (State.queueing_iff hm).mpr (.inr (.inr (.inr ⟨n, hregion⟩)))
  have hverdict := (verdict_frame hregion).trans (frameWrite_of_not_bound (w := w) hbound)
  obtain ⟨hwindow, hothers⟩ := Frames.written_frame s.settle.setup hn w s.settle.frames
  obtain ⟨hkept, hpaced⟩ := Frames.written_hold s.settle.setup n w s.settle.frames hfree
  refine ⟨{ s.settle with
      bus := (s.settle.bus.accept w).setPort w.master (.answered .completion)
      frames := s.settle.frames.written s.settle.setup n w }, ?_, rfl, hwindow, hothers, hkept, hpaced,
    Frames.written_at s.settle.setup hn w s.settle.frames⟩
  rw [exec_busWrite_of_hasPlace hhears hen hplace, takeWrite_of_queueing hq, takeQueueing_accepted hverdict]

/-! ## Releases (R36) -/

/-- A frame's record after `k` references of it are given back (R36). -/
def FrameRecord.lowered (r : FrameRecord) (k : Nat) : FrameRecord :=
  { r with state := if r.state = .bound ∧ r.count ≤ k then .ready else r.state, count := r.count - k }

theorem FrameRecord.lowered_lowered (r : FrameRecord) (j k : Nat) : (r.lowered j).lowered k = r.lowered (j + k) := by
  obtain ⟨state, count, generation, toggle⟩ := r
  simp only [FrameRecord.lowered, Nat.sub_sub, FrameRecord.mk.injEq, and_true]
  by_cases hstate : state = .bound
  · by_cases hj : count ≤ j
    · simp [hstate, hj, show count ≤ j + k by omega]
    · have hiff : count - j ≤ k ↔ count ≤ j + k := by omega
      simp [hstate, hj, hiff]
  · simp [hstate]

/-- A frame that is BOUND exactly while its count is above 0 stays so. -/
theorem FrameRecord.lowered_bound {r : FrameRecord} (h : r.state = .bound ↔ 0 < r.count) (k : Nat) :
    (r.lowered k).state = .bound ↔ 0 < (r.lowered k).count := by
  simp only [FrameRecord.lowered]
  by_cases hstate : r.state = .bound
  · by_cases hk : r.count ≤ k
    · simp [hstate, hk]
    · have hleft : 0 < r.count - k := by omega
      have hbound : ¬(r.state = .bound ∧ r.count ≤ k) := fun hb => hk hb.2
      rw [if_neg hbound]
      exact iff_of_true hstate hleft
  · have : r.count = 0 := by
      have := mt h.mpr hstate
      omega
    simp [hstate, this]

theorem FrameRecord.lowered_zero {r : FrameRecord} (h : r.state = .bound ↔ 0 < r.count) : r.lowered 0 = r := by
  have hstate : ¬ (r.state = .bound ∧ r.count ≤ 0) := fun ⟨hb, hc⟩ => by
    have := h.mp hb
    omega
  simp only [FrameRecord.lowered, if_neg hstate, Nat.sub_zero]

/-- Settles O31: a number below 64 is in the table, so the release's write is seen at it alone. -/
theorem releaseLowersCount : Obligations.ReleaseLowersCount := by
  intro s n k r hr hbound hn
  subst hr
  have hput (r' : FrameRecord) (j : Nat) := Frames.at_put s.frames n r' hn j
  refine ⟨fun hk => ⟨_, ?_, rfl, hput _⟩, fun hk => ⟨_, ?_, rfl, hput _⟩⟩
  · simp only [releaseOne, hbound, if_true, if_pos hk]
    rfl
  · simp only [releaseOne, hbound, if_true, if_neg (Nat.not_le.mpr hk)]
    rfl

/-- The event of a release of `x` when `earlier` references of its frame were given back before (R36). -/
def Frames.releaseEvent (f : Frames) (earlier : Nat) (x : Nat × Nat) : Option Event :=
  if (f.at x.1).state = .bound ∧ earlier < (f.at x.1).count ∧ (f.at x.1).count ≤ earlier + x.2 then
    some (.frameReleased x.1 (f.at x.1).generation)
  else none

theorem Frames.releasedBy_eq (f : Frames) (needs : List (Nat × Nat)) : f.releasedBy needs =
    (List.range needs.length).filterMap fun i => needs[i]?.bind fun x => f.releaseEvent (refsIn (needs.take i) x.1) x := by
  unfold Frames.releasedBy
  congr 1
  funext i
  cases needs[i]? <;> rfl

/-- The references given back by the first need and by the rest. -/
theorem refsIn_cons (x : Nat × Nat) (xs : List (Nat × Nat)) (n : Nat) :
    refsIn (x :: xs) n = (if x.1 = n then x.2 else 0) + refsIn xs n := by
  simp only [refsIn, List.map_cons, List.sum_cons]

/-- What was given back by the first need is no longer in the count that the rest meets. -/
theorem Frames.releaseEvent_later {f g : Frames} {x : Nat × Nat}
    (hg : ∀ n, g.at n = if n = x.1 then (f.at n).lowered x.2 else f.at n) (earlier : Nat) (y : Nat × Nat) :
    f.releaseEvent ((if x.1 = y.1 then x.2 else 0) + earlier) y = g.releaseEvent earlier y := by
  unfold Frames.releaseEvent
  rw [hg]
  by_cases hy : y.1 = x.1
  · simp only [hy, if_true, FrameRecord.lowered]
    by_cases hstate : (f.at x.1).state = .bound
    · by_cases hx : (f.at x.1).count ≤ x.2
      · simp [hstate, hx, show ¬ x.2 + earlier < (f.at x.1).count by omega]
      · have hlow : x.2 + earlier < (f.at x.1).count ↔ earlier < (f.at x.1).count - x.2 := by omega
        have hhigh : (f.at x.1).count ≤ x.2 + earlier + y.2 ↔ (f.at x.1).count - x.2 ≤ earlier + y.2 := by omega
        simp only [hstate, hx, hlow, hhigh, and_false, if_false]
    · simp [hstate]
  · simp only [if_neg hy, if_neg (Ne.symm hy), Nat.zero_add]

/-- The frames freed by a list of needs are those the first frees, and those the rest free after it. -/
theorem Frames.releasedBy_cons {f g : Frames} (x : Nat × Nat) (xs : List (Nat × Nat))
    (hg : ∀ n, g.at n = if n = x.1 then (f.at n).lowered x.2 else f.at n) :
    f.releasedBy (x :: xs) = (f.releaseEvent 0 x).toList ++ g.releasedBy xs := by
  rw [Frames.releasedBy_eq, Frames.releasedBy_eq, List.length_cons, List.range_succ_eq_map, List.filterMap_cons,
    List.filterMap_map]
  have hrest : (fun i => (x :: xs)[i]?.bind fun y => f.releaseEvent (refsIn ((x :: xs).take i) y.1) y) ∘ Nat.succ =
      fun i => xs[i]?.bind fun y => g.releaseEvent (refsIn (xs.take i) y.1) y := by
    funext i
    simp only [Function.comp, Nat.succ_eq_add_one, List.getElem?_cons_succ, List.take_succ_cons, refsIn_cons,
      Frames.releaseEvent_later hg]
  rw [hrest]
  simp only [List.getElem?_cons_zero, List.take_zero, Option.bind_some, refsIn, List.map_nil, List.sum_nil]
  cases f.releaseEvent 0 x <;> rfl

/-- One release on a frame that is BOUND exactly while counted: the record is lowered, and freeing it is reported (R36). -/
theorem releaseOne_spec (s : State) (x : Nat × Nat) (hbound : (s.frames.at x.1).state = .bound ↔ 0 < (s.frames.at x.1).count) :
    ∃ table, releaseOne s x =
      { s with
        frames := { s.frames with table := table }
        mirror := (s.frames.releaseEvent 0 x).toList.foldl (fun m e => m.push ⟨e, s.clock.pathCount⟩) s.mirror } ∧
    ∀ n, ({ s.frames with table := table } : Frames).at n =
      if n = x.1 then (s.frames.at n).lowered x.2 else s.frames.at n := by
  obtain ⟨f, k⟩ := x
  dsimp only at hbound
  by_cases hstate : (s.frames.at f).state = .bound
  · have hf : f < 64 := by
      refine Nat.lt_of_not_le fun h => ?_
      rw [Frames.at_of_le _ _ h] at hstate
      cases hstate
    have hpos := hbound.mp hstate
    refine ⟨(s.frames.put f ((s.frames.at f).lowered k)).table, ?_, fun n => ?_⟩
    · by_cases hk : (s.frames.at f).count ≤ k
      · have hlow : (s.frames.at f).lowered k = { s.frames.at f with state := .ready, count := 0 } := by
          simp [FrameRecord.lowered, hstate, hk]
        have hevent : s.frames.releaseEvent 0 (f, k) = some (.frameReleased f (s.frames.at f).generation) :=
          if_pos ⟨hstate, hpos, by simpa using hk⟩
        simp only [releaseOne, hstate, hk, if_true, hlow, hevent]
        rfl
      · have hlow : (s.frames.at f).lowered k = { s.frames.at f with count := (s.frames.at f).count - k } := by
          simp [FrameRecord.lowered, hk]
        have hevent : s.frames.releaseEvent 0 (f, k) = none := if_neg fun h => hk (by simpa using h.2.2)
        simp only [releaseOne, hstate, hk, if_true, if_false, hlow, hevent]
        rfl
    · refine (Frames.at_put s.frames f _ hf n).trans ?_
      split
      next h => rw [h]
      next => rfl
  · have hcount : (s.frames.at f).count = 0 := by
      have := mt hbound.mpr hstate
      omega
    have hevent : s.frames.releaseEvent 0 (f, k) = none := if_neg fun h => hstate h.1
    have hlow : (s.frames.at f).lowered k = s.frames.at f := by
      have hkeep : (s.frames.at f).count - k = (s.frames.at f).count := by omega
      simp only [FrameRecord.lowered, hstate, false_and, if_false, hkeep]
    refine ⟨s.frames.table, ?_, fun n => ?_⟩
    · simp only [releaseOne, hstate, if_false, hevent]
      rfl
    · split
      next h =>
        rw [h]
        exact hlow.symm
      next => rfl

/-- The releases of a list of needs (R36): every record is lowered by the references the list holds of it, and the frames freed
are reported in the order in which their counts reach 0. -/
theorem foldl_releaseOne_spec (needs : List (Nat × Nat)) (s : State)
    (hbound : ∀ n, (s.frames.at n).state = .bound ↔ 0 < (s.frames.at n).count) :
    ∃ table, needs.foldl releaseOne s =
      { s with
        frames := { s.frames with table := table }
        mirror := (s.frames.releasedBy needs).foldl (fun m e => m.push ⟨e, s.clock.pathCount⟩) s.mirror } ∧
    ∀ n, ({ s.frames with table := table } : Frames).at n = (s.frames.at n).lowered (refsIn needs n) := by
  induction needs generalizing s with
  | nil => exact ⟨s.frames.table, rfl, fun n => (FrameRecord.lowered_zero (hbound n)).symm⟩
  | cons x xs ih =>
    obtain ⟨table, hone, hat⟩ := releaseOne_spec s x (hbound x.1)
    have hbound' (n : Nat) : (({ s.frames with table := table } : Frames).at n).state = .bound ↔
        0 < (({ s.frames with table := table } : Frames).at n).count := by
      rw [hat]
      split
      · exact FrameRecord.lowered_bound (hbound n) x.2
      · exact hbound n
    obtain ⟨table', hrest, hat'⟩ := ih (releaseOne s x) (by rw [hone]; exact hbound')
    rw [List.foldl_cons, hrest, hone]
    refine ⟨table', ?_, fun n => ?_⟩
    · rw [Frames.releasedBy_cons x xs hat, List.foldl_append]
    · rw [hone] at hat'
      refine (hat' n).trans ?_
      dsimp only
      rw [hat, refsIn_cons]
      by_cases hn : n = x.1
      · rw [if_pos hn, if_pos hn.symm, FrameRecord.lowered_lowered]
      · rw [if_neg hn, if_neg (Ne.symm hn), Nat.zero_add]

/-! ## Posts (R51 to R60) -/

/-- A write to a staging slot with a place, by the verdict of the order stage (R51). -/
theorem exec_busWrite_staging {s : State} {w : WriteReq} {k : Nat} (hhears : s.settle.hears w.master)
    (hm : w.master ≠ .fetcher) (hen : w.enables ≠ 0) (hplace : s.settle.hasPlace w) (hregion : s.settle.region w.line = .staging k) :
    ((s.settle.orders.slot k).pending = false → exec (.busWrite w) s = .next
      { (if isPost w then post k (s.settle.latchSlot k w) else s.settle.latchSlot k w) with
        bus := (s.settle.bus.accept w).setPort w.master (.answered .completion) }) ∧
    ((s.settle.orders.slot k).pending = true → isPost w = true → exec (.busWrite w) s = .next
      { s.settle.raise (.orderRefused .slotBusy k) with bus := s.settle.bus.setPort w.master (.answered .abort) }) := by
  have hq := (State.queueing_iff hm).mpr (.inr (.inr (.inl ⟨k, hregion⟩)))
  obtain ⟨hbusy, hempty⟩ := stagingWrite_cases k w s.settle
  rw [exec_busWrite_of_hasPlace hhears hen hplace, takeWrite_of_queueing hq]
  refine ⟨fun hpending => ?_, fun hpending hpost => ?_⟩
  · rw [takeQueueing_accepted ((verdict_staging hregion).trans (hempty hpending))]
    split
    · have hbus : (post k (s.settle.latchSlot k w)).bus = s.settle.bus := by
        by_cases hk : k < 32
        · refine (post_moves hk ?_).bus_eq
          rw [State.latchSlot_slot hk, if_pos rfl]
          exact hpending
        · exact absurd (State.slot_lt_of_region hregion) hk
      rw [hbus]
    · rfl
  · have hverdict := hbusy hpending
    rw [hpost, if_pos rfl] at hverdict
    rw [takeQueueing_refused ((verdict_staging hregion).trans hverdict)]
    rfl

/-- A post whose checks pass is accepted with the order in the slot's copy (R54, R60). -/
theorem post_accepted {k : Nat} {s : State} {copy : Line} (hslot : (s.orders.slot k).latched = copy)
    (hcheck : postCheck s copy = none) : post k s = acceptOrder k (orderOfLine copy) s := by
  simp only [post, hslot, hcheck, Orders.orderAt]

/-- A post that fails a check is refused with its reason (R54). -/
theorem post_refused {k : Nat} {s : State} {copy : Line} {reason : RefusalReason} (hslot : (s.orders.slot k).latched = copy)
    (hcheck : postCheck s copy = some reason) : post k s = s.raise (.orderRefused reason k) := by
  simp only [post, hslot, hcheck]

/-- Settles O33: the latching of the bytes changes nothing that the checks read, and the order then joins the queue with its references
taken, waking the path in STANDBY. -/
theorem postAccepted : Obligations.PostAccepted := by
  intro s u w k copy o q hsettle hhears hm hplace hregion hk hpending hpost hcopy ho hcheck hq
  subst hsettle ho
  obtain ⟨hexec, -⟩ := exec_busWrite_staging hhears hm (isPost_enables hpost) hplace hregion
  have hlatched := State.latchSlot_slot hk w s.settle
  rw [hpending, hcopy] at hlatched
  have hslot : (s.settle.latchSlot k w).orders.slot k = ⟨false, copy⟩ := (hlatched k).trans (if_pos rfl)
  have hjoined := joinOrder_slot hk (orderOfLine copy) (s.settle.latchSlot k w)
  obtain ⟨-, -, -, hfresh, -⟩ := postCheck_none.mp hcheck
  obtain ⟨hframe, hrefs⟩ := Frames.takeRefs_spec (orderOfLine copy) s.settle.frames hfresh
  have hseqr : ((s.settle.latchSlot k w).joinOrder k (orderOfLine copy)).seqr = q := by
    rw [← hq]
    cases hqueue : s.settle.orders.queue <;> simp [State.joinOrder, State.latchSlot, Orders.putSlot, hqueue]
  have hfinal (j : Nat) : ((s.settle.latchSlot k w).joinOrder k (orderOfLine copy)).orders.slot j =
      if j = k then ⟨true, copy⟩ else s.settle.orders.slot j := by
    rw [hjoined, hslot, hlatched]
    split <;> rfl
  have hjoin : (s.settle.latchSlot k w).joinOrder k (orderOfLine copy) = { s.settle with
      frames :=
        { s.settle.frames with table := ((orderOfLine copy).needs.foldl Frames.takeRef s.settle.frames).table }
      orders := ((s.settle.latchSlot k w).joinOrder k (orderOfLine copy)).orders
      seqr := q } := by
    rw [← hseqr]
    exact congrArg (fun f : Frames => { (s.settle.latchSlot k w).joinOrder k (orderOfLine copy) with frames := f }) hframe
  rw [hframe] at hrefs
  have hnext := hexec hpending
  rw [hpost, if_pos rfl, post_accepted (congrArg Slot.latched hslot) hcheck] at hnext
  by_cases hwake : s.settle.seqr.path = .standby ∧ s.settle.pins.coverClosed = true
  · have hwoken : acceptOrder k (orderOfLine copy) (s.settle.latchSlot k w) =
        ((s.settle.latchSlot k w).joinOrder k (orderOfLine copy)).enterStarting := if_pos hwake
    rw [hwoken, hjoin] at hnext
    refine ⟨_, hnext, rfl, hrefs, fun hno => ?_, fun _ _ => ⟨rfl, rfl, rfl⟩, rfl, rfl, rfl, rfl, hfinal⟩
    rcases hno with h | h <;> simp [hwake] at h
  · have hplain : acceptOrder k (orderOfLine copy) (s.settle.latchSlot k w) =
        (s.settle.latchSlot k w).joinOrder k (orderOfLine copy) := if_neg hwake
    rw [hplain, hjoin] at hnext
    exact ⟨_, hnext, rfl, hrefs, fun _ => ⟨rfl, rfl, rfl⟩, fun hpath hcover => absurd ⟨hpath, hcover⟩ hwake, rfl, rfl, rfl, rfl,
      hfinal⟩

/-- The first failing check's reason (R54). -/
theorem postCheck_some {s : State} {copy : Line} {reason : RefusalReason}
    (h : reason = .sequenceGap ∧ (orderOfLine copy).seq ≠ s.orders.ePost ∨
      reason = .setBreak ∧ (orderOfLine copy).seq = s.orders.ePost ∧ setContinues s.orders.posted copy = false ∨
      reason = .form ∧ (orderOfLine copy).seq = s.orders.ePost ∧ setContinues s.orders.posted copy = true ∧
        formValid s.setup.frameCount copy = false ∨
      reason = .frameStale ∧ (orderOfLine copy).seq = s.orders.ePost ∧ setContinues s.orders.posted copy = true ∧
        formValid s.setup.frameCount copy = true ∧ (∃ f ∈ (orderOfLine copy).names, s.frames.stale f = true) ∨
      reason = .frameFull ∧ (orderOfLine copy).seq = s.orders.ePost ∧ setContinues s.orders.posted copy = true ∧
        formValid s.setup.frameCount copy = true ∧ (∀ f ∈ (orderOfLine copy).names, s.frames.stale f = false) ∧
        ∃ need ∈ (orderOfLine copy).needs, 255 < (s.frames.at need.1).count + need.2) :
    postCheck s copy = some reason := by
  unfold postCheck
  rcases h with ⟨rfl, hseq⟩ | ⟨rfl, hseq, hset⟩ | ⟨rfl, hseq, hset, hform⟩ | ⟨rfl, hseq, hset, hform, hstale⟩ |
    ⟨rfl, hseq, hset, hform, hfresh, hfull⟩
  · simp [hseq]
  · simp [hseq, hset]
  · simp [hseq, hset, hform]
  · simp [hseq, hset, hform, hstale]
  · have hnone : (orderOfLine copy).names.any s.frames.stale = false := by simpa using hfresh
    have hany : (orderOfLine copy).needs.any s.frames.full = true := by simpa [Frames.full] using hfull
    simp [hseq, hset, hform, hnone, hany]

/-- Settles O34: the order stage latches the bytes first, and the checks then read what they read before. -/
theorem postRefused : Obligations.PostRefused := by
  intro s u w k copy o hsettle hhears hm hen hplace hregion hk hcopy ho
  subst hsettle ho
  obtain ⟨hexec, hbusy⟩ := exec_busWrite_staging hhears hm hen hplace hregion
  refine ⟨fun hpost hpending => hbusy hpending hpost, fun hpending => ?_⟩
  have hlatched := State.latchSlot_slot hk w s.settle
  rw [hpending, hcopy] at hlatched
  have hslot : (s.settle.latchSlot k w).orders.slot k = ⟨false, copy⟩ := (hlatched k).trans (if_pos rfl)
  refine ⟨(s.settle.latchSlot k w).orders.slots, hlatched, fun hpost => ?_, fun hpost reason hreason => ?_⟩
  · rw [hexec hpending, hpost, if_neg Bool.false_ne_true]
    rfl
  · have hcheck : postCheck (s.settle.latchSlot k w) copy = some reason := postCheck_some hreason
    rw [hexec hpending, hpost, if_pos rfl, post_refused (congrArg Slot.latched hslot) hcheck]
    rfl

/-! ## CANCEL_PENDING (R63) -/

/-- The state in which a control word that is taken meets its owner: its bytes and its toggle are stored (R166, R167). -/
def State.withWord (code a b x : Byte) (u : State) : State :=
  { u with mirror := { u.mirror with control := x ++ b ++ a ++ code, lastToggle := b.getLsbD 0 } }

/-- A control word that is taken is handed to its owner, and its master is answered (R166, R167). -/
theorem controlWord_dispatched {s : State} {m : Master} {code a b x : Byte} (h : s.settle.takesRequest m b) :
    mirrorCommand m (controlWord code a b x) s =
      .next ((dispatchRequest code a (s.settle.withWord code a b x)).answer m .completion) := by
  rw [mirrorCommand_taken h.1, controlWord_taken h.2]
  rfl

/-- What is taken of a pending queue that is not empty (R63). -/
theorem State.cancelAll_eq {s : State} {k : Nat} {rest : List Nat} (h : s.orders.queue = k :: rest) :
    s.cancelAll =
      { (s.orders.queue.flatMap fun j => (s.orders.orderAt j).needs).foldl releaseOne s with
        orders :=
          { s.orders.queue.foldl Orders.empty s.orders with
            queue := [], ePost := (s.orders.orderAt k).seq, posted := s.orders.launched } } := by
  unfold State.cancelAll
  split
  next hnone =>
    rw [h] at hnone
    cases hnone
  next k' rest' hsome =>
    have hk : k = k' := (List.cons.inj (h.symm.trans hsome)).1
    rw [foldl_cancelOne, hk]

/-- Settles O35: the orders of the queue give back their references in its order, and the slots that are PENDING are exactly its own. -/
theorem cancelPendingTakesBack : Obligations.CancelPendingTakesBack := by
  intro s u m a b x v hsettle htakes htaken
  subst hsettle htaken
  have hexec : exec (.cancelPending m a b x) s =
      .next ((requestCancel (s.settle.withWord 6 a b x)).answer m .completion) := controlWord_dispatched htakes
  have hpath : (s.settle.withWord 6 a b x).seqr.path = s.settle.seqr.path := rfl
  refine ⟨fun hdriven => ?_, fun hstopped => ⟨fun hqueue => ?_, fun k rest needs hqueue hframes hpending hneeds => ?_⟩⟩
  · rw [hexec, requestCancel]
    have hno : s.settle.seqr.path.stopped = false := by rcases hdriven with h | h | h <;> rw [h] <;> rfl
    rw [hpath, hno, if_neg Bool.false_ne_true]
    rfl
  all_goals
    have hyes : s.settle.seqr.path.stopped = true := by rcases hstopped with h | h | h <;> rw [h] <;> rfl
    rw [hexec, requestCancel, hpath, hyes, if_pos rfl]
    have hsame : (s.settle.withWord 6 a b x).orders.queue = s.settle.orders.queue := rfl
  · simp only [State.cancelAll, hsame, hqueue]
    rfl
  · obtain ⟨-, hbound, -, -⟩ := hframes
    obtain ⟨-, hslots⟩ := hpending
    obtain ⟨table, hfold, hat⟩ := foldl_releaseOne_spec needs (s.settle.withWord 6 a b x) hbound
    have hslot (j : Nat) : (s.settle.orders.queue.foldl Orders.empty s.settle.orders).slot j =
        { s.settle.orders.slot j with pending := false } := by
      rw [Orders.foldl_empty_slot]
      split
      next => rfl
      next hout =>
        have hempty : (s.settle.orders.slot j).pending = false := by
          by_cases hj : j < 32
          · exact Bool.eq_false_iff.mpr fun h => hout ((hslots j).mpr ⟨hj, h⟩)
          · simp [Orders.slot, hj]
        rw [← hempty]
    have hcancel : (s.settle.withWord 6 a b x).cancelAll = { s.settle.withWord 6 a b x with
        frames := { s.settle.frames with table := table }
        mirror := (s.settle.frames.releasedBy needs).foldl (fun m e => m.push ⟨e, s.settle.clock.pathCount⟩)
          (s.settle.withWord 6 a b x).mirror
        orders :=
          { s.settle.orders.queue.foldl Orders.empty s.settle.orders with
            queue := [], ePost := (s.settle.orders.orderAt k).seq, posted := s.settle.orders.launched } } := by
      have hneeds' : (s.settle.withWord 6 a b x).orders.queue.flatMap
          (fun j => ((s.settle.withWord 6 a b x).orders.orderAt j).needs) = needs := hneeds.symm
      rw [State.cancelAll_eq (s := s.settle.withWord 6 a b x) hqueue, hneeds', hfold]
      rfl
    rw [hcancel]
    refine ⟨_, rfl, rfl, rfl, rfl, rfl, ?_, hslot, rfl, fun n r hr => ?_, rfl⟩
    · change (s.settle.orders.queue.foldl Orders.empty s.settle.orders).launched = _
      rw [Orders.foldl_empty_frame]
    · subst hr
      exact hat n

end Sys2Proof.Machine

/-! # Proofs: the path clock, the path states and the status mirror -/

namespace Sys2Proof.Machine

/-! ## The machine -/

/-- Settles O1: by the queue's two forms. -/
theorem stepRunsFrontCommand : Obligations.StepRunsFrontCommand := by
  refine fun s => ⟨fun c rest h => ?_, fun h => ?_⟩ <;> simp only [step, h]

/-- The reset passage holds no request and no entry (R15). -/
theorem Bus.reset_sound : (Bus.reset .idle).QueueOk ∧ (Bus.reset .idle).MastersOk := by
  refine ⟨⟨by decide, by decide, by decide, by decide⟩, by decide, by simp [Bus.askers, Bus.reset], by simp [Bus.reset]⟩

/-- The reset event queue is an empty ring (R164). -/
theorem Mirror.reset_ring : Mirror.reset.Ring := by
  refine ⟨by decide, by decide, fun i hi => ?_⟩
  have hpos : i % 32 < 32 := Nat.mod_lt _ (by decide)
  simp [Mirror.reset, hpos]

/-- Settles O4: every collection is empty and every counter 0. -/
theorem resetIsSound : Obligations.ResetIsSound := by
  obtain ⟨hqueue, hmasters⟩ := Bus.reset_sound
  have hunarmed : ¬ State.reset.armed = true := by decide
  have hframes : FrameInv State.reset := frameInv_iff.mpr ⟨fun h => absurd h hunarmed, Frames.reset_counted, fun h => absurd h hunarmed⟩
  have hwindow : WindowInv State.reset := ⟨by decide, by decide, by simp [State.reset, Frames.reset]⟩
  have hcalendar : CalendarInv State.reset := CalendarInv.of_empty rfl
  refine ⟨⟨hqueue, mastersInv_iff.mpr hmasters, hframes, hwindow, Orders.reset_pending 0, by unfold PathInv; decide,
    by unfold TableRoomInv; decide, hcalendar,
    Mirror.reset_ring, fun h => absurd h hunarmed⟩, ?_, rfl⟩
  unfold Settled
  decide

/-! ## The path clock (chapter 5) -/

/-- Settles O36: the pulse's two parts, the path count in every armed state and the pitch under drive. -/
theorem encPulseCounts : Obligations.EncPulseCounts := by
  intro s u hsettle
  subst hsettle
  refine ⟨fun hoff => ?_, fun hout harmed => ?_⟩
  · have hdead : s.settle.live = false := by rcases hoff with h | h <;> simp [State.live, h]
    change execEncPulse s = _
    simp only [execEncPulse, hdead, Bool.false_eq_true, if_false]
  · have hlive : s.settle.live = true := by simp [State.live, hout, harmed]
    change execEncPulse s = _
    simp only [execEncPulse, hlive, if_true, encPulse]
    cases hdriven : s.settle.driven with
    | false => rfl
    | true =>
      simp only [if_true, Clock.drivenPulse, Bool.true_eq_false, if_false]

/-- Settles O37: by the level, the pending change and the filter length. -/
theorem filterSampleTable : Obligations.FilterSampleTable := by
  intro f c level x hf
  obtain ⟨held, change⟩ := x
  refine ⟨fun h => ?_, fun h hnone hone => ?_, fun h hnone hmore => ?_, fun p h hsome hless => ?_, fun p h hsome hfull => ?_⟩ <;>
    simp only [Filter.sample]
  · rw [if_pos h]
  · simp only [if_neg h, show change = none from hnone, hone, Nat.le_refl, if_true]
  · simp only [if_neg h, show change = none from hnone, if_neg (Nat.not_le.mpr hmore)]
  · simp only [if_neg h, show change = some p from hsome, if_neg (Nat.not_le.mpr hless)]
  · simp only [if_neg h, show change = some p from hsome, if_pos hfull]

/-- An edge of this tick is an accepted change of its sensor, with the level sampled (R76). -/
theorem State.mem_tickEdges {u : State} {levels : SensorLevels} {e : Edge} : e ∈ u.tickEdges levels ↔
    (u.sampleOf levels e.sensor).2 = some e.stamp ∧ e.leading = levels.get e.sensor := by
  simp only [State.tickEdges, List.mem_filterMap, Option.map_eq_some_iff]
  constructor
  · rintro ⟨sn, -, st, hst, rfl⟩
    exact ⟨hst, rfl⟩
  · rintro ⟨hst, hl⟩
    refine ⟨e.sensor, ?_, e.stamp, hst, ?_⟩
    · cases e.sensor <;> decide
    · rw [← hl]

/-- Settles O38: the six filters sample side by side, and the edges are those of the accepted changes. -/
theorem tickSamples : Obligations.TickSamples := by
  intro s u levels hsettle
  subst hsettle
  refine ⟨fun hoff => ?_, fun hout harmed => ?_⟩
  · have hdead : s.settle.live = false := by rcases hoff with h | h <;> simp [State.live, h]
    change execTick levels s = _
    simp only [execTick, hdead, Bool.false_eq_true, if_false]
  · have hlive : s.settle.live = true := by simp [State.live, hout, harmed]
    refine ⟨refTick levels s.settle, ?_, rfl, fun sn => ?_, fun hstopped => ?_, fun hdriven e => ?_⟩
    · change execTick levels s = _
      simp only [execTick, hlive, if_true]
    · cases sn <;> rfl
    · simp only [refTick, hstopped, Bool.false_eq_true, if_false]
    · simp only [refTick, hdriven, if_true, List.mem_append, State.mem_tickEdges]
      rfl

/-! ## The requests of the control word (R89)

A request neither reads nor changes the bus passage, so the answer to its master may come first. -/

/-- Folds of changes that neither read nor change the bus passage. -/
theorem foldl_withBus {α : Type} {f : State → α → State} (hf : ∀ t b x, f { t with bus := b } x = { f t x with bus := b })
    (l : List α) (t : State) (b : Bus) : l.foldl f { t with bus := b } = { l.foldl f t with bus := b } := by
  induction l generalizing t with
  | nil => rfl
  | cons x xs ih => rw [List.foldl_cons, hf, ih, List.foldl_cons]

theorem requestRun_withBus (t : State) (b : Bus) : requestRun { t with bus := b } = { requestRun t with bus := b } := by
  cases hpath : t.seqr.path <;> simp only [requestRun, hpath] <;> cases t.pins.coverClosed <;> rfl

theorem drainDone_withBus (t : State) (b : Bus) : State.drainDone { t with bus := b } = { t.drainDone with bus := b } := by
  simp only [State.drainDone]
  split <;> rfl

theorem enterDraining_withBus (t : State) (b : Bus) : State.enterDraining { t with bus := b } = { t.enterDraining with bus := b } :=
  drainDone_withBus (State.enter .draining (t.onSeqr fun q => { q with startCtr := 0, idleCtr := 0 })) b

theorem requestDrain_withBus (t : State) (b : Bus) : requestDrain { t with bus := b } = { requestDrain t with bus := b } := by
  cases hpath : t.seqr.path <;> simp only [requestDrain, hpath]
  case starting => exact enterDraining_withBus t b
  case running => exact enterDraining_withBus t b
  all_goals rfl

theorem requestHalt_withBus (t : State) (b : Bus) : requestHalt { t with bus := b } = { requestHalt t with bus := b } := by
  have hdriven : State.driven { t with bus := b } = t.driven := rfl
  cases h : t.driven with
  | true => simp only [requestHalt, State.jamHere, State.jam, hdriven, h, if_true]; rfl
  | false => simp only [requestHalt, hdriven, h]; rfl

theorem requestResume_withBus (t : State) (b : Bus) : requestResume { t with bus := b } = { requestResume t with bus := b } := by
  have hhigh : State.firstHigh { t with bus := b } = t.firstHigh := rfl
  by_cases hpath : t.seqr.path = .jammed
  · simp only [requestResume, hpath, if_true, hhigh]
    cases t.firstHigh with
    | some sn => rfl
    | none => cases t.pins.coverClosed <;> rfl
  · simp only [requestResume, hpath, if_false]
    rfl

theorem requestStandby_withBus (t : State) (b : Bus) : requestStandby { t with bus := b } = { requestStandby t with bus := b } := by
  have hnothing : State.nothingToDo { t with bus := b } = t.nothingToDo := rfl
  cases hpath : t.seqr.path <;> simp only [requestStandby, hpath, hnothing] <;> cases t.nothingToDo <;> rfl

theorem releaseOne_withBus (t : State) (b : Bus) (x : Nat × Nat) :
    releaseOne { t with bus := b } x = { releaseOne t x with bus := b } := by
  simp only [releaseOne]
  split
  · split <;> rfl
  · rfl

theorem requestCancel_withBus (t : State) (b : Bus) : requestCancel { t with bus := b } = { requestCancel t with bus := b } := by
  simp only [requestCancel]
  split
  · cases hqueue : t.orders.queue with
    | nil => simp only [State.cancelAll, hqueue]
    | cons k rest =>
      rw [State.cancelAll_eq (s := { t with bus := b }) hqueue, State.cancelAll_eq hqueue]
      dsimp only
      rw [show (fun j => (Orders.orderAt _ j).needs) = fun j => (t.orders.orderAt j).needs from rfl]
      rw [foldl_withBus releaseOne_withBus]
  · rfl

theorem resetFrame_withBus (t : State) (b : Bus) (n : Nat) :
    resetFrame { t with bus := b } n = { resetFrame t n with bus := b } := by
  simp only [resetFrame]
  split <;> rfl

theorem resetFrames_withBus (t : State) (b : Bus) : State.resetFrames { t with bus := b } = { t.resetFrames with bus := b } := by
  unfold State.resetFrames
  generalize List.range 64 = frames
  exact congrArg (State.onFrames fun f => { f with window := [] }) (foldl_withBus resetFrame_withBus frames t b)

theorem requestPathReset_withBus (t : State) (b : Bus) :
    requestPathReset { t with bus := b } = { requestPathReset t with bus := b } := by
  simp only [requestPathReset]
  split
  · unfold State.pathReset
    rw [resetFrames_withBus]
    generalize t.resetFrames = r
    dsimp only
    split <;> rfl
  · rfl

theorem requestClearTrayStall_withBus (a : Byte) (t : State) (b : Bus) :
    requestClearTrayStall a { t with bus := b } = { requestClearTrayStall a t with bus := b } := by
  unfold requestClearTrayStall
  split <;> rfl

theorem requestReleaseFrame_withBus (a : Byte) (t : State) (b : Bus) :
    requestReleaseFrame a { t with bus := b } = { requestReleaseFrame a t with bus := b } := by
  have hsetup : State.setup { t with bus := b } = t.setup := rfl
  by_cases hcount : t.setup.frameCount ≤ a.toNat
  · simp only [requestReleaseFrame, hsetup, if_pos hcount]
    rfl
  · simp only [requestReleaseFrame, hsetup, if_neg hcount]
    cases (t.frames.at a.toNat).state <;> rfl

theorem dispatchRequest_withBus (code a : Byte) (t : State) (b : Bus) :
    dispatchRequest code a { t with bus := b } = { dispatchRequest code a t with bus := b } := by
  unfold dispatchRequest
  split
  · exact requestRun_withBus t b
  · exact requestDrain_withBus t b
  · exact requestHalt_withBus t b
  · exact requestResume_withBus t b
  · exact requestStandby_withBus t b
  · exact requestCancel_withBus t b
  · exact requestPathReset_withBus t b
  · exact requestClearTrayStall_withBus a t b
  · exact requestReleaseFrame_withBus a t b
  · rfl
  · rfl

/-- A request that is taken acts on the state that every control word leaves (R166, R167). -/
theorem controlWord_acts {s : State} {m : Master} {code a b x : Byte} (h : s.settle.takesRequest m b) :
    mirrorCommand m (controlWord code a b x) s = .next (dispatchRequest code a (s.settle.requestTaken m code a b x)) := by
  have hbus : (dispatchRequest code a (s.settle.withWord code a b x)).bus = s.settle.bus :=
    (dispatchRequest_moves code a _).bus_eq
  rw [controlWord_dispatched h, State.answer, hbus]
  exact congrArg _ (dispatchRequest_withBus code a _ _).symm

/-! ## Path-state requests (chapter 6) -/

/-- RUN by the path state (R90). -/
theorem requestRun_cases (t : State) :
    (t.seqr.path = .idle ∨ t.seqr.path = .standby → requestRun t =
      if t.pins.coverClosed then t.started else t.reported (.requestRefused 1 t.seqr.path)) ∧
    (t.seqr.path = .starting ∨ t.seqr.path = .running → requestRun t = t) ∧
    (t.seqr.path = .draining ∨ t.seqr.path = .jammed → requestRun t = t.reported (.requestRefused 1 t.seqr.path)) := by
  refine ⟨fun h => ?_, fun h => ?_, fun h => ?_⟩
  · have hrun : requestRun t = if t.pins.coverClosed then t.enterStarting else t.refuse 1 := by
      rcases h with h | h <;> simp only [requestRun, h]
    exact hrun
  · rcases h with h | h <;> simp only [requestRun, h]
  · have hrun : requestRun t = t.refuse 1 := by rcases h with h | h <;> simp only [requestRun, h]
    exact hrun

/-- Settles O39: by the path state, with the cover closed or open. -/
theorem runStarts : Obligations.RunStarts := by
  intro s u m a b x v hsettle htakes htaken
  subst hsettle htaken
  rw [show exec (.run m a b x) s = _ from controlWord_acts htakes]
  obtain ⟨hstopped, hdriven, hrefused⟩ := requestRun_cases (s.settle.requestTaken m 1 a b x)
  exact ⟨fun h => congrArg _ (hstopped h), fun h => congrArg _ (hdriven h), fun h => congrArg _ (hrefused h)⟩

/-- DRAIN by the path state (R97). -/
theorem requestDrain_cases (t : State) :
    (t.seqr.path = .starting ∨ t.seqr.path = .running → requestDrain t = t.enterDraining) ∧
    (t.seqr.path = .standby → requestDrain t = t.stoppedIn .idle) ∧
    (t.seqr.path = .idle ∨ t.seqr.path = .draining → requestDrain t = t) ∧
    (t.seqr.path = .jammed → requestDrain t = t.reported (.requestRefused 2 t.seqr.path)) := by
  refine ⟨fun h => ?_, fun h => ?_, fun h => ?_, fun h => ?_⟩
  · rcases h with h | h <;> simp only [requestDrain, h]
  · have hdrain : requestDrain t = t.enterStopped .idle := by simp only [requestDrain, h]
    exact hdrain
  · rcases h with h | h <;> simp only [requestDrain, h]
  · have hdrain : requestDrain t = t.refuse 2 := by simp only [requestDrain, h]
    exact hdrain

/-- Settles O40: the entry to DRAINING goes on to IDLE exactly with an empty table. -/
theorem drainEmpties : Obligations.DrainEmpties := by
  intro s u m a b x v d hsettle htakes htaken hd
  subst hsettle htaken hd
  rw [show exec (.drain m a b x) s = _ from controlWord_acts htakes]
  obtain ⟨hdriven, hstandby, hnothing, hrefused⟩ := requestDrain_cases (s.settle.requestTaken m 2 a b x)
  refine ⟨fun h => ?_, fun h => congrArg _ (hstandby h), fun h => congrArg _ (hnothing h), fun h => congrArg _ (hrefused h)⟩
  refine congrArg _ ((hdriven h).trans ?_)
  by_cases htable : s.settle.track.table = []
  · rw [if_pos htable]
    exact if_pos ⟨rfl, htable⟩
  · rw [if_neg htable]
    exact if_neg fun hempty => htable hempty.2

/-- With every collection empty there is nothing to do (R98). -/
theorem State.nothingToDo_iff (t : State) :
    t.nothingToDo = true ↔ t.orders.queue = [] ∧ t.reprint = [] ∧ t.track.table = [] := by
  simp only [State.nothingToDo, Bool.and_eq_true, List.isEmpty_iff, and_assoc]

/-- STANDBY by the path state (R99). -/
theorem requestStandby_cases (t : State) :
    (t.seqr.path = .running → requestStandby t =
      if t.orders.queue = [] ∧ t.reprint = [] ∧ t.track.table = [] then t.stoppedIn .standby else t.reported .standbyDeclined) ∧
    (t.seqr.path = .standby → requestStandby t = t) ∧
    (t.seqr.path ∈ [.idle, .starting, .draining, .jammed] →
      requestStandby t = t.reported (.requestRefused 5 t.seqr.path)) := by
  refine ⟨fun h => ?_, fun h => ?_, fun h => ?_⟩
  · simp only [requestStandby, h, State.nothingToDo_iff]
    rfl
  · simp only [requestStandby, h]
  · have hrefuse : requestStandby t = t.refuse 5 := by
      simp only [List.mem_cons, List.not_mem_nil, or_false] at h
      rcases h with h | h | h | h <;> simp only [requestStandby, h]
    exact hrefuse

/-- Settles O41: the expiry and the request have the same effect on an empty RUNNING path. -/
theorem standbyEntered : Obligations.StandbyEntered := by
  intro s u m a b x v hsettle
  refine ⟨fun hpath hnothing hlimit hreached => ?_, fun htakes htaken => ?_⟩
  · have hexpires : s.idleExpires = true := by
      simp [State.idleExpires, hpath, hnothing, hreached, Nat.pos_of_ne_zero hlimit]
    change execIdleExpiry s = _
    simp only [execIdleExpiry, hexpires, if_true]
    rfl
  · subst hsettle htaken
    rw [show exec (.standby m a b x) s = _ from controlWord_acts htakes]
    obtain ⟨hrunning, hstandby, hrefused⟩ := requestStandby_cases (s.settle.requestTaken m 5 a b x)
    exact ⟨fun h => congrArg _ (hrunning h), fun h => congrArg _ (hstandby h), fun h => congrArg _ (hrefused h)⟩

/-- The first high sensor is the one before which no other is high (R101). -/
theorem State.firstHigh_eq (t : State) :
    ((∀ sn : Sensor, (t.clock.filters[sn.idx]).level = false) → t.firstHigh = none) ∧
    ∀ sn : Sensor, (t.clock.filters[sn.idx]).level = true →
      (∀ other : Sensor, other.idx < sn.idx → (t.clock.filters[other.idx]).level = false) → t.firstHigh = some sn := by
  refine ⟨fun h => ?_, fun sn hsn hbefore => ?_⟩
  · exact List.find?_eq_none.mpr fun sn _ => by simp only [h, Bool.false_eq_true, not_false_eq_true]
  · have horder : ∃ before after, Sensor.all = before ++ sn :: after ∧ ∀ o ∈ before, o.idx < sn.idx := by
      cases sn
      · exact ⟨[], _, rfl, by decide⟩
      · exact ⟨[.feed], _, rfl, by decide⟩
      · exact ⟨[.feed, .reg], _, rfl, by decide⟩
      · exact ⟨[.feed, .reg, .xfer], _, rfl, by decide⟩
      · exact ⟨[.feed, .reg, .xfer, .fuse], _, rfl, by decide⟩
      · exact ⟨[.feed, .reg, .xfer, .fuse, .loop], _, rfl, by decide⟩
    obtain ⟨before, after, hall, hlower⟩ := horder
    rw [State.firstHigh, hall, List.find?_append, List.find?_cons_of_pos (by simpa using hsn), List.find?_eq_none.mpr]
    · rfl
    · intro o ho
      simp only [hbefore o (hlower o ho), Bool.false_eq_true, not_false_eq_true]

/-- RESUME by the path state, the sensors and the cover (R101). -/
theorem requestResume_cases (t : State) :
    (t.seqr.path = .jammed → (t.firstHigh = none → requestResume t =
        if t.pins.coverClosed then t.stoppedIn .idle else t.reported (.resumeRefused none)) ∧
      ∀ sn, t.firstHigh = some sn → requestResume t = t.reported (.resumeRefused (some sn))) ∧
    (t.seqr.path ≠ .jammed → requestResume t = t.reported (.requestRefused 4 t.seqr.path)) := by
  refine ⟨fun h => ⟨fun hlow => ?_, fun sn hhigh => ?_⟩, fun h => ?_⟩
  · simp only [requestResume, h, if_true, hlow]
    rfl
  · simp only [requestResume, h, if_true, hhigh]
    rfl
  · simp only [requestResume, if_neg h]
    rfl

/-- Settles O42: the sensors are asked in the order of R101, the cover last. -/
theorem resumeRecovers : Obligations.ResumeRecovers := by
  intro s u m a b x v hsettle htakes htaken
  subst hsettle htaken
  rw [show exec (.resume m a b x) s = _ from controlWord_acts htakes]
  obtain ⟨hjammed, hother⟩ := requestResume_cases (s.settle.requestTaken m 4 a b x)
  obtain ⟨hlow, hhigh⟩ := State.firstHigh_eq (s.settle.requestTaken m 4 a b x)
  refine ⟨fun h => ⟨fun hclear => ?_, fun sn hsn hbefore => ?_⟩, fun h => congrArg _ (hother h)⟩
  · exact congrArg _ ((hjammed h).1 (hlow hclear))
  · exact congrArg _ ((hjammed h).2 sn (hhigh sn hsn hbefore))

/-- A jam of the sequencer itself, taken in a driven state and in any other (R96). -/
theorem State.jamHere_eq (c : JamCode) (t : State) :
    t.jamHere c = if t.driven then t.jammedWith ⟨c, none, none, t.clock.pathCount⟩ else t := by
  cases h : t.driven with
  | true => exact State.jam_driven h c none none t.clock.pathCount
  | false => exact State.jam_stopped h c none none t.clock.pathCount

/-- Settles O43: the four causes are jams of the sequencer itself. -/
theorem pathJams : Obligations.PathJams := by
  intro s u m a b x v hsettle
  refine ⟨fun htakes htaken => ?_, fun hpath hreached => ?_, fun hdriven hreached => ?_, fun hout => ?_⟩
  · subst hsettle htaken
    rw [show exec (.halt m a b x) s = _ from controlWord_acts htakes]
    change Host.Outcome.next (requestHalt (s.settle.requestTaken m 3 a b x)) = _
    have hdriven : (s.settle.requestTaken m 3 a b x).driven = s.settle.driven := rfl
    cases h : s.settle.driven with
    | true => simp only [requestHalt, State.jamHere_eq, hdriven, h, if_true]; rfl
    | false => simp only [requestHalt, hdriven, h, Bool.false_eq_true, if_false]; rfl
  · have hfails : s.startFails = true := by simp [State.startFails, hpath, hreached]
    have hdriven : s.driven = true := by rw [State.driven, hpath]; rfl
    change execStartFail s = _
    simp only [execStartFail, hfails, if_true, State.jamHere_eq, hdriven]
  · have hstalls : s.stalls = true := by simp [State.stalls, hdriven, hreached]
    change execStall s = _
    simp only [execStall, hstalls, if_true, State.jamHere_eq, hdriven]
  · subst hsettle
    have hreset : (s.settle.onPins fun p => { p with coverClosed := false }).inReset = false := hout
    change execCoverClosedFall s = _
    simp only [execCoverClosedFall, hreset, Bool.false_eq_true, if_false, State.jamHere_eq]
    rfl

/-! ### PATH_RESET (R102) -/

/-- A path that is not driven is stopped or UNCONFIGURED (R88, R89). -/
theorem PathState.stopped_of_not_driven {p : PathState} (h : p.driven = false) (harmed : p ≠ .unconfigured) : p.stopped = true := by
  cases p <;> simp_all [PathState.driven, PathState.stopped]

theorem PathState.not_stopped_of_driven {p : PathState} (h : p.driven = true) : p.stopped = false := by
  cases p <;> simp_all [PathState.driven, PathState.stopped]

/-- Settles O44: every frame of the table is reset in turn, and the rest of the state is written. -/
theorem pathResetClears : Obligations.PathResetClears := by
  intro s u m a b x v hsettle htakes htaken
  subst hsettle htaken
  rw [show exec (.pathReset m a b x) s = _ from controlWord_acts htakes]
  have harmed : s.settle.seqr.path ≠ .unconfigured := by
    have := htakes.1.2.1
    simpa [State.armed] using this
  have hpath : (s.settle.requestTaken m 7 a b x).seqr.path = s.settle.seqr.path := rfl
  refine ⟨fun hdriven => ?_, fun hstopped => ?_⟩
  · change Host.Outcome.next (requestPathReset (s.settle.requestTaken m 7 a b x)) = _
    simp only [requestPathReset, hpath, PathState.not_stopped_of_driven hdriven, Bool.false_eq_true, if_false]
    rfl
  · obtain ⟨table, mirror, hfold, hat, hmirror⟩ := resetFrames_fold (s.settle.requestTaken m 7 a b x) 64 (Nat.le_refl _)
    have hreset : (s.settle.requestTaken m 7 a b x).resetFrames =
        { s.settle.requestTaken m 7 a b x with
          frames := { s.settle.frames with table := table, window := [] }, mirror := mirror } :=
      congrArg (State.onFrames fun f => { f with window := [] }) hfold
    refine ⟨(s.settle.requestTaken m 7 a b x).pathReset, ?_, ?_⟩
    · change Host.Outcome.next (requestPathReset (s.settle.requestTaken m 7 a b x)) = _
      simp only [requestPathReset, hpath, PathState.stopped_of_not_driven hstopped harmed, if_true]
    · have hevery (n : Nat) : ({ s.settle.frames with table := table, window := [] } : Frames).at n =
          { s.settle.frames.at n with
            state := if (s.settle.frames.at n).state = .bound then .ready else (s.settle.frames.at n).state
            count := 0 } := by
        refine (hat n).trans ?_
        by_cases hn : n < 64
        · exact if_pos hn
        · refine (if_neg hn).trans ?_
          rw [Frames.at_of_le _ n (by omega), Frames.at_of_le _ n (by omega)]
          rfl
      have hcleared : (s.settle.requestTaken m 7 a b x).pathReset =
          { s.settle.requestTaken m 7 a b x with
            frames := { s.settle.frames with table := table, window := [] }
            orders := s.settle.orders.pathReset s.settle.track.dDel
            seqr := { Sequencer.reset .idle with jam := s.settle.seqr.jam }
            launch := s.settle.launch.cleared
            track := s.settle.track.frozen
            reprint := []
            mirror := if s.settle.seqr.path = .idle then mirror
              else mirror.push ⟨.stateChange .idle, s.settle.clock.pathCount⟩ } := by
        simp only [State.pathReset, hreset, hpath]
        split <;> rfl
      rw [hcleared]
      refine ⟨rfl, hevery, ?_⟩
      rw [hmirror]
      rfl

end Sys2Proof.Machine

/-! # Proofs: clearing requests, inputs, events and the output lines -/

namespace Sys2Proof.Machine

/-! ## CLEAR_TRAY_STALL (R120) -/

/-- Settles O48: the argument names a tray exactly below 4. -/
theorem trayStallCleared : Obligations.TrayStallCleared := by
  intro s u m a b x v hsettle htakes htaken
  subst hsettle htaken
  rw [show exec (.clearTrayStall m a b x) s = _ from controlWord_acts htakes]
  change (∀ tray : Tray, _ → Host.Outcome.next (requestClearTrayStall a (s.settle.requestTaken m 8 a b x)) = _) ∧
    (_ → Host.Outcome.next (requestClearTrayStall a (s.settle.requestTaken m 8 a b x)) = _)
  refine ⟨fun tray htray => ?_, fun hbeyond => ?_⟩
  · simp only [requestClearTrayStall, htray, tray.isLt, dif_pos, Fin.val_inj]
    rfl
  · simp only [requestClearTrayStall, dif_neg (Nat.not_lt.mpr hbeyond)]
    rfl

/-! ## The latched conditions (R169) -/

/-- Settles O55: both words name the conditions by the same five bits. -/
theorem standingCleared : Obligations.StandingCleared := by
  intro s u m a b x set rest hsettle
  subst hsettle
  refine ⟨fun htakes => ⟨_, rfl, ?_⟩, fun hhears => ?_⟩
  · rw [show exec (.clearStanding m a b x) s = _ from controlWord_acts htakes]
    rfl
  · change mirrorCommand m (clearStandingWord set rest) s = _
    rw [mirrorCommand_taken hhears]
    rfl

/-! ## Control words that are not taken (R166, R167, R176) -/

/-- A code that no row has is refused (R176). -/
theorem dispatchRequest_unknown {code : Byte} (h : unknownCode code = true) (a : Byte) (t : State) :
    dispatchRequest code a t = t.refuse code := by
  simp only [unknownCode, Bool.or_eq_true, beq_iff_eq, decide_eq_true_eq] at h
  have hcode : code.toNat = 0 ∨ 11 ≤ code.toNat := h.imp_left fun h0 => by rw [h0]; rfl
  unfold dispatchRequest
  split
  case h_11 => rfl
  all_goals omega

/-- All four bytes of a word at byte 0 are enabled (R166). -/
theorem and_mask_of_enablesWord {en : Enables} (h : enablesWord en 0 = true) : en &&& 0xF#32 = 0xF#32 := by
  have hword : en.extractLsb' 0 4 = 0xF#4 := by simpa [enablesWord] using h
  ext i hi
  by_cases hlow : i < 4
  · have hbit : (en.extractLsb' 0 4)[i] = (0xF#4)[i] := by rw [hword]
    have hmask : i = 0 ∨ i = 1 ∨ i = 2 ∨ i = 3 := by omega
    rcases hmask with rfl | rfl | rfl | rfl <;> simpa using hbit
  · have hmask : (0xF#32)[i] = false := by
      rw [← BitVec.getLsbD_eq_getElem, show (0xF#32) = BitVec.setWidth 32 (0xF#4) from rfl, BitVec.getLsbD_setWidth]
      simp [BitVec.getLsbD_of_ge (0xF#4) i (by omega)]
    simp [hmask]

/-- A mirror write that covers no request word in full is ignored (R166). -/
theorem mirrorWrite_ignored {block : Nat} {en : Enables} (h : coversRequestWord block en = false) (data : Line) (t : State) :
    mirrorWrite block en data t = t := by
  by_cases hword : enablesWord en 0 = true
  · have hblock : (block ≠ 8 ∧ block ≠ 9) ∧ block ≠ 10 := by
      simpa [coversRequestWord, and_mask_of_enablesWord hword, not_or] using h
    obtain ⟨⟨h8, h9⟩, h10⟩ := hblock
    simp only [mirrorWrite, hword, if_true]
  · simp only [mirrorWrite, if_neg hword]

/-- Settles O58: the toggle, the code and the enables decide. -/
theorem controlWordNotTaken : Obligations.ControlWordNotTaken := by
  intro s u m hsettle hhears
  subst hsettle
  refine ⟨fun code a b x hrepeat => ?_, fun code a b x hnew hunknown => ?_, fun block en data hen hcovers => ?_⟩
  · rw [exec_controlRow, mirrorCommand_taken hhears, controlWord_repeat hrepeat]
    rfl
  · change mirrorCommand m (controlWord code a b x) s = _
    rw [controlWord_acts ⟨hhears, hnew⟩, dispatchRequest_unknown hunknown]
    rfl
  · change execMirrorWriteIgnored m block en data s = _
    rw [execMirrorWriteIgnored, if_neg hen, mirrorCommand_taken hhears, mirrorWrite_ignored hcovers]
    rfl

/-! ## Inputs -/

/-- Settles O60: each of these commands writes one level. -/
theorem inputsKeepLevels : Obligations.InputsKeepLevels := by
  intro s u tray stack level hsettle
  subst hsettle
  exact ⟨rfl, rfl, rfl, by cases stack <;> rfl⟩

/-! ## Events, standing conditions and output lines (R171 to R173) -/

/-- Two readings of a list that agree on its members give the same entries. -/
theorem filterMap_eq_of_eq_on {α β : Type} {f g : α → Option β} {l : List α} (h : ∀ x ∈ l, f x = g x) :
    l.filterMap f = l.filterMap g := by
  have hmap : l.map f = l.map g := List.map_congr_left h
  calc l.filterMap f
      = (l.map f).filterMap id := by rw [List.filterMap_map, Function.id_comp]
    _ = l.filterMap g := by rw [hmap, List.filterMap_map, Function.id_comp]

/-- The events with one more at the tail. -/
theorem Mirror.records_push {m : Mirror} (hroom : m.count < 32) (r : EventRecord) :
    (m.push r).records = m.records ++ [r] := by
  have hpush : m.push r =
      { m with events := m.events.setIfInBounds ((m.head + m.count) % 32) (some r), count := m.count + 1 } := if_pos hroom
  have hat (i : Nat) (hi : i < 32) : (m.events.setIfInBounds ((m.head + m.count) % 32) (some r))[(m.head + i) % 32]? =
      if i = m.count then some (some r) else m.events[(m.head + i) % 32]? := by
    rw [Vector.getElem?_setIfInBounds]
    by_cases hpos : i = m.count
    · rw [hpos, if_pos rfl, if_pos (Nat.mod_lt _ (by decide)), if_pos rfl]
    · rw [if_neg (by omega), if_neg hpos]
  rw [hpush]
  simp only [Mirror.records, List.range_succ, List.filterMap_append, List.filterMap_cons, List.filterMap_nil, hat m.count hroom,
    if_true, Option.join_some]
  congr 1
  refine filterMap_eq_of_eq_on fun i hi => ?_
  have hlt := List.mem_range.mp hi
  rw [hat i (by omega), if_neg (by omega)]

/-- The standing conditions, read off bit by bit (R172). -/
theorem State.conditions_bits (s : State) : s.conditions.bits =
    [decide (s.seqr.path = .jammed), s.armed && !s.pins.coverClosed, s.armed && s.pins.trayEmpty[0],
      s.armed && s.pins.trayEmpty[1], s.armed && s.pins.trayEmpty[2], s.armed && s.pins.trayEmpty[3],
      s.armed && s.pins.stackFullA, s.armed && s.pins.stackFullB, s.frames.hold, s.launch.stalled[0], s.launch.stalled[1],
      s.launch.stalled[2], s.launch.stalled[3], s.mirror.fetchFault, s.mirror.guardSeen, s.mirror.rangeSeen,
      s.mirror.memoryFault, s.mirror.eventOverrun] := by
  have hlist (v : Vector Bool 4) : v.toList = [v[0], v[1], v[2], v[3]] := by
    apply List.ext_getElem
    · simp
    · intro i h1 h2
      have hi : i = 0 ∨ i = 1 ∨ i = 2 ∨ i = 3 := by simp at h2; omega
      rcases hi with rfl | rfl | rfl | rfl <;> simp
  simp only [Conditions.bits, State.conditions, hlist, Vector.getElem_map]
  rfl

/-- ATTENTION of an armed part out of reset (R173). -/
theorem State.attention_iff {s : State} (hout : s.inReset = false) (harmed : s.armed = true) :
    s.attention = true ↔ 0 < s.mirror.count ∨ true ∈ s.conditions.bits := by
  simp [State.attention, hout, harmed]

/-- The lines of a powered part (R48, R88, R116, R137, R140). -/
theorem State.outputs_powered {s : State} (hpower : s.pins.powerGood = true) : s.outputs =
    { runTransport := s.driven
      fuserStandby := s.seqr.path == .standby
      pick := Vector.ofFn s.pick
      divertLoop := s.track.divertLoop
      purgeGate := s.track.purgeGate
      jogB := s.track.jogB
      paceHold := s.frames.hold
      attention := s.attention } := if_pos hpower

/-- Settles O57: the ring gains the record at its tail, and each condition and line is read off the state. -/
theorem eventQueuedAndAttention : Obligations.EventQueuedAndAttention := by
  intro s r hring
  refine ⟨fun hroom => ?_, fun hfull => ?_, fun hoff => ?_, fun hout harmed => State.attention_iff hout harmed, ?_, ?_⟩
  · have hpush : s.mirror.push r = { s.mirror with
        events := s.mirror.events.setIfInBounds ((s.mirror.head + s.mirror.count) % 32) (some r)
        count := s.mirror.count + 1 } := if_pos hroom
    refine ⟨Mirror.records_push hroom r, by rw [hpush], by rw [hpush], fun hout harmed => ?_⟩
    refine (State.attention_iff (s := { s with mirror := s.mirror.push r }) hout harmed).mpr (.inl ?_)
    rw [hpush]
    exact Nat.succ_pos _
  · exact if_neg (by omega)
  · rcases hoff with h | h <;> simp [State.attention, h]
  · intro empty coverOpen fullA fullB harmed hunarmed
    rw [State.conditions_bits]
    by_cases hpath : s.seqr.path = .unconfigured
    · obtain ⟨rfl, rfl, rfl, hempty⟩ := hunarmed hpath
      have harmed' : s.armed = false := by simp [State.armed, hpath]
      obtain rfl : empty = fun _ => false := funext hempty
      rw [harmed']
      exact rfl
    · obtain ⟨rfl, rfl, rfl, hempty⟩ := harmed hpath
      have harmed' : s.armed = true := by simp [State.armed, hpath]
      obtain rfl : empty = fun tray => s.pins.trayEmpty[tray] := funext hempty
      rw [harmed']
      exact rfl
  · intro o hpower hout harmed ho
    rw [State.outputs_powered hpower] at ho
    subst ho
    have hpick (tray : Tray) : (Vector.ofFn s.pick)[tray] = true ↔
        ∃ r ∈ s.track.table, r.copy.order.tray = tray ∧ r.phase = .feeding := by
      simp [State.pick, Vector.getElem_ofFn]
    refine ⟨?_, beq_iff_eq, fun tray => ⟨hpick tray, fun hpath hline => ?_⟩, rfl, rfl, rfl, rfl, rfl⟩
    · cases hpath : s.seqr.path <;> simp [State.driven, PathState.driven, hpath]
    · obtain ⟨r', hr', -⟩ := (hpick tray).mp hline
      obtain ⟨htable, -⟩ := hpath
      refine Classical.byContradiction fun hno => ?_
      rw [htable (not_or.mp hno)] at hr'
      exact List.not_mem_nil hr'

end Sys2Proof.Machine

/-! # Proofs: pitch ticks and launches -/

namespace Sys2Proof.Machine

/-! ## The launch test (R108 to R110) -/

/-- Ageing touches the last exit slot and the last destination alone (R108). -/
theorem Launch.age_frame (n : PitchNo) (l : Launch) :
    l.age n = { l with lastExit := (l.age n).lastExit, lastDest := (l.age n).lastDest } := by
  unfold Launch.age
  split
  · split <;> rfl
  · rfl

/-- Conditions (a) to (g) of R110 on the aged registers. -/
theorem launchTest_iff (p : PitchTick) (o : Order) (s : State) : launchTest p.number o (s.dropTick p) = true ↔
    s.track.table.length < 16 ∧ s.pins.trayEmpty[o.tray] = false ∧ s.launch.stalled[o.tray] = false ∧
    s.pins.stackFull o.dest = false ∧ s.launch.slotFree (s.setup.frontSlot p.number) = true ∧
    (∀ b, s.setup.backSlot p.number o.sides = some b → s.launch.slotFree b = true) ∧
    (∀ y, (s.launch.age p.number).lastExit = some y → isAfter (s.setup.exitSlot p.number o.sides) y = true) ∧
    ∀ y, (s.launch.age p.number).lastExit = some y → (s.launch.age p.number).lastDest = some o.dest ∨
      isAtOrAfter (s.setup.exitSlot p.number o.sides) (y + BitVec.ofNat 16 (1 + s.setup.gateTravel)) = true := by
  have hstalled : (s.launch.age p.number).stalled = s.launch.stalled := by rw [Launch.age_frame]
  have hfree (m : PitchNo) : (s.launch.age p.number).slotFree m = s.launch.slotFree m := by
    rw [Launch.age_frame]
    rfl
  have hsetup : (s.dropTick p).setup = s.setup := rfl
  have htable : (s.dropTick p).track.table = s.track.table := rfl
  have hpins : (s.dropTick p).pins = s.pins := rfl
  have hlaunch : (s.dropTick p).launch = s.launch.age p.number := rfl
  simp only [launchTest, hsetup, htable, hpins, hlaunch, hstalled, hfree, Bool.and_eq_true, decide_eq_true_eq, Bool.not_eq_true',
    and_assoc]
  cases s.setup.backSlot p.number o.sides <;> cases (s.launch.age p.number).lastExit <;> simp

/-- Without a candidate that passes the test nothing is launched (R109). -/
theorem launchOpportunity_none {p : PitchTick} {t : State}
    (h : ∀ c, t.candidate = some c → launchTest p.number c.copy.order t = false) : launchOpportunity p t = t := by
  unfold launchOpportunity
  split
  next c hc => rw [h c hc, if_neg Bool.false_ne_true]
  next => rfl

/-- The one candidate that passes the test is launched (R109, R114). -/
theorem launchOpportunity_some {p : PitchTick} {t : State} {c : Candidate} (hc : t.candidate = some c)
    (htest : launchTest p.number c.copy.order t = true) : launchOpportunity p t = launch c p.number p.count t := by
  simp only [launchOpportunity, hc, htest, if_true]

theorem exec_pitchTick_some {s : State} {p : PitchTick} (h : s.clock.tick = some p) :
    exec .pitchTick s = .next (takePitchTick p s) := by
  change execPitchTick s = _
  simp only [execPitchTick, h]

/-- Settles O45: the tick by path state, the launch test by its conditions, and the fuser's rise. -/
theorem runningEntered : Obligations.RunningEntered := by
  intro s u idle p l hsettle hl hidle
  subst hsettle
  obtain rfl : l = s.launch.age p.number := hl
  have hdrop : s.dropTick p = idle := hidle.symm
  refine ⟨fun htick => ?_, fun hout => ?_⟩
  · rw [exec_pitchTick_some htick]
    obtain ⟨hstarting, hrunning, hother⟩ := takePitchTick_cases p s
    refine ⟨fun hpath => ?_, fun hpath => ?_, fun hpath hnone => ?_⟩
    · rw [hother (by simp [hpath]) (by simp [hpath]), hdrop]
    · rw [hstarting hpath, hdrop]
      subst hidle
      rfl
    · rw [hrunning hpath, hdrop]
      refine congrArg _ ?_
      by_cases hready : p.running = true
      · rw [if_pos hready, ← hdrop]
        refine launchOpportunity_none fun c hc => Bool.eq_false_iff.mpr fun htest => ?_
        have hcandidate := State.candidate_cases (s := s) hc
        obtain ⟨hroom, htray, hstall, hstack, hfront, hback, hafter, hgap⟩ := (launchTest_iff p c.copy.order s).mp htest
        rcases hnone with hno | hfull | ⟨hreprint, hempty⟩ | ⟨o, e, hsource, he, hfails⟩
        · simp [hready] at hno
        · omega
        · rcases hcandidate with ⟨x, xs, hx, -⟩ | ⟨-, k, ks, hk, -, hclear⟩
          · simp [hreprint] at hx
          · rcases hempty with hqueue | ⟨y, hy, hphase⟩
            · simp [hqueue] at hk
            · have := List.any_eq_false.mp hclear y hy
              simp [Record.diverted, hphase] at this
        · have horder : c.copy.order = o := by
            rcases hcandidate with ⟨x, xs, hx, rfl⟩ | ⟨hreprint, k, ks, hk, rfl, -⟩
            · rcases hsource with ⟨c', rest, hc', rfl⟩ | ⟨hnil, -⟩
              · rw [(List.cons.inj (hx.symm.trans hc')).1]
                rfl
              · simp [hnil] at hx
            · rcases hsource with ⟨c', rest, hc', -⟩ | ⟨-, k', rest, hk', rfl⟩
              · simp [hreprint] at hc'
              · rw [(List.cons.inj (hk'.symm.trans hk)).1]
                rfl
          subst he
          rw [horder] at htray hstall hstack hback hafter hgap
          rcases hfails with h | h | h | h | ⟨b, hb, h⟩ | ⟨y, hy, h | ⟨hdest, h⟩⟩
          · simp [htray] at h
          · simp [hstall] at h
          · simp [hstack] at h
          · simp [hfront] at h
          · simp [hback b hb] at h
          · simp [hafter y hy] at h
          · rcases hgap y hy with hsame | hlate
            · exact hdest hsame
            · simp [hlate] at h
      · rw [if_neg hready]
  · change execFuserReadyRise s = _
    have hreset : (s.settle.onPins fun p => { p with fuserReady := true }).inReset = false := hout
    simp only [execFuserReadyRise, hreset, State.onPins_seqr, true_and]
    split <;> rfl

/-! ## The launch (R105, R114) -/

theorem Launch.reserveFor_frame (r : Record) (l : Launch) : l.reserveFor r = { l with calendar := (l.reserveFor r).calendar } := by
  unfold Launch.reserveFor
  dsimp only
  split <;> rfl

/-- The calendar with a face reserved (R105). -/
theorem Launch.reserve_calendar (m : PitchNo) (face : Face) (l : Launch) (i : Nat) :
    (l.reserve m face).calendar[i]? = if calendarIndex m = i then some (some face) else l.calendar[i]? := by
  have hlt : calendarIndex m < 64 := Nat.mod_lt _ (by decide)
  rw [Launch.reserve, Vector.getElem?_setIfInBounds]
  by_cases h : calendarIndex m = i
  · rw [if_pos h, if_pos h, if_pos hlt]
  · rw [if_neg h, if_neg h]

/-- The calendar after a record's faces are reserved, the back face last (R105). -/
theorem Launch.reserveFor_calendar (r : Record) (l : Launch) (i : Nat) : (l.reserveFor r).calendar[i]? =
    if r.backSlot.map calendarIndex = some i then some (some ⟨r.seq, .back⟩)
    else if calendarIndex r.frontSlot = i then some (some ⟨r.seq, .front⟩)
    else l.calendar[i]? := by
  unfold Launch.reserveFor
  cases hback : r.backSlot with
  | none => exact (Launch.reserve_calendar _ _ l i).trans (by simp)
  | some b =>
    refine (Launch.reserve_calendar b _ _ i).trans ?_
    simp only [Option.map_some, Option.some.injEq, Launch.reserve_calendar]

/-- A record that awaits a visit of its route (R84, R124). -/
theorem Tracking.await_some {sides : Sides} {v : Nat} {sn : Sensor} {k : Nat} (h : routeVisit sides v = some (sn, k))
    (u : Setup) (q : Seq) (l : PathCount) (t : Tracking) :
    t.await u q l sides v = (t.putQueue sn (insertArrival ⟨q, u.expected l k⟩ (t.queueAt sn))).setDeadline
      ⟨u.windowDeadline (u.expected l k), .windowClose, sn, q⟩ := by
  simp only [Tracking.await, h]

/-- What a launch leaves, the order stage and the calendar aside (R114). -/
theorem launch_eq {t : State} {c : Candidate} (hc : t.candidate = some c) (n : PitchNo) (count : PathCount) :
    launch c n count t =
      { t with
        seqr := if t.track.table = [] then { t.seqr with idleCtr := 0 } else t.seqr
        orders := (t.takeCandidate c).orders
        reprint := t.reprint.tail
        launch :=
          { t.launch with
            calendar := (t.launch.reserveFor (newRecord t.setup n count c.copy)).calendar
            lastExit := some (t.setup.exitSlot n c.copy.order.sides), lastDest := some c.copy.order.dest }
        track :=
          { t.track with
            table := t.track.table ++ [newRecord t.setup n count c.copy]
            arrivals := t.track.arrivals.set 0
              (insertArrival ⟨c.copy.order.seq, t.setup.expected count 1⟩ t.track.arrivals[0])
            deadlines := t.track.deadlines ++
              [⟨t.setup.windowDeadline (t.setup.expected count 1), .windowClose, .feed, c.copy.order.seq⟩] } } := by
  have hvisit : routeVisit c.copy.order.sides 1 = some (.feed, 1) := by cases c.copy.order.sides <;> rfl
  have htaken : t.takeCandidate c = { t with orders := (t.takeCandidate c).orders, reprint := t.reprint.tail } := by
    rcases State.candidate_cases hc with ⟨x, xs, -, rfl⟩ | ⟨hempty, k, ks, -, rfl, -⟩
    · rfl
    · simp only [State.takeCandidate, hempty, List.tail_nil]
  have hseqr : (if t.track.table.isEmpty then { t.seqr with idleCtr := 0 } else t.seqr) =
      if t.track.table = [] then { t.seqr with idleCtr := 0 } else t.seqr := by
    cases t.track.table <;> rfl
  rw [← hseqr]
  unfold launch
  dsimp only
  rw [Tracking.await_some hvisit, htaken, Launch.reserveFor_frame]
  rfl

/-- Settles O46: the candidate passes the test, so the tick launches it. -/
theorem pitchTickLaunches : Obligations.PitchTickLaunches := by
  intro s p c o r e l htick hpath hrunning hl hsource ho he hroom htray hstall hstack hfront hback hafter hgap hr
  obtain rfl : l = s.launch.age p.number := hl
  subst ho he
  have hcandidate : (s.dropTick p).candidate = some c := by
    change s.candidate = some c
    unfold State.candidate
    cases hreprint : s.reprint with
    | cons y ys =>
      rw [hreprint] at hsource
      rw [show c = .reprint y from hsource]
    | nil =>
      rw [hreprint] at hsource
      obtain ⟨k, rest, hqueue, hc, hclear⟩ := hsource
      have hany : s.track.table.any Record.diverted = false :=
        List.any_eq_false.mpr fun y hy => by simpa [Record.diverted] using hclear y hy
      simp only [hqueue, hany, hc]
      rfl
  have htest := (launchTest_iff p c.copy.order s).mpr ⟨hroom, htray, hstall, hstack, hfront, hback, hafter, hgap⟩
  have hnew : r = newRecord s.setup p.number p.count c.copy := hr
  subst hnew
  obtain ⟨-, htaken, -⟩ := takePitchTick_cases p s
  have hexec : exec .pitchTick s = .next (launch c p.number p.count (s.dropTick p)) := by
    rw [exec_pitchTick_some htick, htaken hpath, if_pos hrunning, launchOpportunity_some hcandidate htest]
  have hdrop : s.dropTick p = { s with
      clock := { s.clock with tick := none }
      launch := { s.launch with lastExit := (s.launch.age p.number).lastExit, lastDest := (s.launch.age p.number).lastDest } } := by
    rw [State.dropTick, Launch.age_frame]
  rw [launch_eq hcandidate, hdrop] at hexec
  refine ⟨_, hexec, rfl, fun hreprint => ?_, fun k rest hempty hqueue => ?_, fun i _ => Launch.reserveFor_calendar _ _ i⟩
  · rcases State.candidate_cases hcandidate with ⟨x, xs, -, rfl⟩ | ⟨hnil, -⟩
    · rfl
    · exact absurd hnil hreprint
  · rcases State.candidate_cases hcandidate with ⟨x, xs, hx, -⟩ | ⟨-, k', ks, hk, rfl, -⟩
    · exact absurd (hempty.symm.trans hx) (by simp)
    · obtain ⟨rfl, rfl⟩ := List.cons.inj (hk.symm.trans hqueue)
      refine ⟨congrArg List.tail hk, rfl, rfl, rfl, fun j => ?_⟩
      exact Orders.slot_empty s.orders k' j

end Sys2Proof.Machine

/-! # Proofs: jams, misfeeds, trailing edges and delivery -/

namespace Sys2Proof.Machine

/-! ## Edges and expiries that come -/

/-- A deliverable leading edge reaches the tracking table in a driven state (R76, R126). -/
theorem exec_leadingEdge_driven {s : State} {sn : Sensor} {e : Edge} (he : s.edgeNow sn true = some e) (hdriven : s.driven = true) :
    exec (.leadingEdge sn) s = .next (takeLeading sn e.stamp (s.dropEdge e)) := by
  obtain ⟨hleading, hsensor⟩ := State.edgeNow_facts he
  change execLeadingEdge sn s = _
  simp only [execLeadingEdge, he, takeEdge_eq, hdriven, hleading, hsensor, if_true]

/-- A deliverable trailing edge reaches the tracking table in a driven state (R76, R130). -/
theorem exec_trailingEdge_driven {s : State} {sn : Sensor} {e : Edge} (he : s.edgeNow sn false = some e) (hdriven : s.driven = true) :
    exec (.trailingEdge sn) s = .next (takeTrailing sn e.stamp (s.dropEdge e)) := by
  obtain ⟨hleading, hsensor⟩ := State.edgeNow_facts he
  change execTrailingEdge sn s = _
  simp only [execTrailingEdge, he, takeEdge_eq, hdriven, hleading, hsensor, if_true, Bool.false_eq_true, if_false]

/-- The freeze takes the deadlines with it, the expired one too (R155). -/
theorem jammedWith_dropDeadline (j : JamRecord) (d : Deadline) (s : State) : (s.dropDeadline d).jammedWith j = s.jammedWith j := rfl

/-- Settles O51: each cause is a jam taken in a driven state. -/
theorem trackingJams : Obligations.TrackingJams := by
  intro s hdriven
  refine ⟨fun sn e s' he hs' => ?_, fun sn e s' he hs' hnone => ?_, fun q d hd hq => ?_, fun q d hd hq => ?_⟩
  · obtain rfl : s' = s.dropEdge e := hs'
    rw [exec_leadingEdge_driven he hdriven]
    refine ⟨fun hempty => ?_, fun h rest hqueue hbefore => ?_⟩
    · have hqueue : (s.dropEdge e).track.queueAt sn = [] := hempty
      simp only [takeLeading, hqueue]
      exact congrArg _ (State.jam_driven (s := s.dropEdge e) hdriven _ _ _ _)
    · have hqueue' : (s.dropEdge e).track.queueAt sn = h :: rest := hqueue
      have hbefore' : (s.dropEdge e).setup.classify e.stamp ((s.dropEdge e).setup.windowOpen h.expected) = .before := hbefore
      simp only [takeLeading, hqueue', hbefore', if_true]
      exact congrArg _ (State.jam_driven (s := s.dropEdge e) hdriven _ _ _ _)
  · obtain rfl : s' = s.dropEdge e := hs'
    have hnone' : (s.dropEdge e).track.occupant sn = none := hnone
    rw [exec_trailingEdge_driven he hdriven]
    simp only [takeTrailing, hnone']
    exact congrArg _ (State.jam_driven (s := s.dropEdge e) hdriven _ _ _ _)
  · have hfacts := List.find?_some hd
    simp only [Bool.and_eq_true, beq_iff_eq, bne_iff_ne] at hfacts
    obtain ⟨⟨-, hkind, hsensor⟩, -⟩ := hfacts
    have hlate : s.expiring q (fun d => d.kind == .windowClose && d.sensor != .feed) = some d := hd
    change execLate q s = _
    simp only [execLate, hlate, takeExpiry_eq, hdriven, hkind, if_true, if_neg hsensor, hq]
    rw [State.jam_driven (s := s.dropDeadline d) hdriven, jammedWith_dropDeadline]
  · have hfacts := List.find?_some hd
    simp only [Bool.and_eq_true, beq_iff_eq] at hfacts
    obtain ⟨⟨-, hkind⟩, -⟩ := hfacts
    have hstuck : s.expiring q (fun d => d.kind == .stuck) = some d := hd
    change execStuck q s = _
    simp only [execStuck, hstuck, takeExpiry_eq, hdriven, hkind, if_true, hq]
    rw [State.jam_driven (s := s.dropDeadline d) hdriven, jammedWith_dropDeadline]

/-! ## Misfeeds (R117 to R119) -/

/-- The idle counter is cleared as the list becomes non-empty (R98), by either form of the test. -/
theorem idleReset_isEmpty {α : Type} (l : List α) (q : Sequencer) :
    (if l.isEmpty then { q with idleCtr := 0 } else q) = if l = [] then { q with idleCtr := 0 } else q := by
  cases l <;> rfl

/-- What a misfeed leaves before a DRAINING path is looked at (R118, R119). -/
def State.misfed (r : Record) (value : PathCount) (s : State) : State :=
  { s with
    seqr := if s.reprint = [] then { s.seqr with idleCtr := 0 } else s.seqr
    launch :=
      { s.launch with
        calendar := s.launch.calendar.map fun c => if c.map Face.seq = some r.seq then none else c
        stalled := if r.copy.misfeeds + 1 ≤ s.setup.pickRetries then s.launch.stalled
          else s.launch.stalled.set r.copy.order.tray true }
    track :=
      { s.track with
        table := s.track.table.filter fun y => y.seq != r.seq
        arrivals := s.track.arrivals.set 0 (s.track.arrivals[0].filter fun y => y.seq != r.seq) }
    reprint := insertCopy
      (if r.copy.misfeeds + 1 ≤ s.setup.pickRetries then { r.copy with misfeeds := r.copy.misfeeds + 1 } else r.copy) s.reprint
    mirror :=
      if r.copy.misfeeds + 1 ≤ s.setup.pickRetries then
        s.mirror.push ⟨.misfeed r.seq r.copy.order.tray (r.copy.misfeeds + 1), value⟩
      else (s.mirror.push ⟨.misfeed r.seq r.copy.order.tray (r.copy.misfeeds + 1), value⟩).push
        ⟨.trayStalled r.copy.order.tray r.seq, s.clock.pathCount⟩ }

/-- An order copy enters the reprint list (R98, R148). -/
theorem State.toReprint_eq (c : OrderCopy) (s : State) : s.toReprint c =
    { s with
      seqr := if s.reprint = [] then { s.seqr with idleCtr := 0 } else s.seqr
      reprint := insertCopy c s.reprint } := by
  rw [← idleReset_isEmpty]
  rfl

theorem misfeed_eq (r : Record) (value : PathCount) (s : State) : misfeed r value s = (s.misfed r value).drainDone := by
  by_cases h : r.copy.misfeeds + 1 ≤ s.setup.pickRetries
  · refine (if_pos h).trans ?_
    rw [State.toReprint_eq]
    simp only [State.misfed, if_pos h]
    rfl
  · refine (if_neg h).trans ?_
    rw [State.toReprint_eq]
    simp only [State.misfed, if_neg h]
    rfl

/-- A DRAINING path whose table is empty stops (R97), the two conditions being stated in any form. -/
theorem drainDone_of_iff {t : State} {p : Prop} [Decidable p] (h : p ↔ t.seqr.path = .draining ∧ t.track.table = []) :
    t.drainDone = if p then t.stoppedIn .idle else t := by
  by_cases hp : p
  · rw [if_pos hp]
    exact if_pos (h.mp hp)
  · rw [if_neg hp]
    exact if_neg fun hd => hp (h.mpr hd)

/-- Without the records of a sequence the table is empty exactly when it held no other. -/
theorem filter_seq_eq_nil (l : List Record) (q : Seq) : l.filter (fun y => y.seq != q) = [] ↔ ∀ y ∈ l, y.seq = q := by
  simp [List.filter_eq_nil_iff]

/-- Settles O47: the expiry on FEED is the misfeed of the record that the table holds. -/
theorem misfeedReprints : Obligations.MisfeedReprints := by
  intro s d r q tray n hdriven hd hq hr htray hn
  subst htray hn
  have hfacts := List.find?_some hd
  simp only [Bool.and_eq_true, beq_iff_eq] at hfacts
  obtain ⟨⟨-, hkind, hsensor⟩, -⟩ := hfacts
  have hseq := Tracking.seq_of_find hr
  have hexpiring : s.expiring q (fun d => d.kind == .windowClose && d.sensor == .feed) = some d := hd
  have hexec : exec (.misfeed q) s = .next ((s.dropDeadline d).misfed r d.value).drainDone := by
    change execMisfeed q s = _
    simp only [execMisfeed, hexpiring, takeExpiry_eq, hdriven, hkind, hsensor, hq, hr, if_true, misfeed_eq]
  have hpath : ((s.dropDeadline d).misfed r d.value).seqr.path = s.seqr.path := by
    unfold State.misfed
    dsimp only
    split <;> rfl
  have hdrain : (s.seqr.path = .draining ∧ ∀ y ∈ s.track.table, y.seq = q) ↔
      ((s.dropDeadline d).misfed r d.value).seqr.path = .draining ∧ ((s.dropDeadline d).misfed r d.value).track.table = [] := by
    rw [hpath, ← filter_seq_eq_nil, ← hseq]
    rfl
  refine ⟨(s.dropDeadline d).misfed r d.value, ?_, ?_⟩
  · rw [hexec, drainDone_of_iff hdrain]
  · subst hseq
    exact ⟨rfl, rfl, rfl, rfl⟩

/-! ## Spoiling (R135, R141) -/

/-- The decision of a sequence is read off its record (R123). -/
theorem Tracking.decisionOf_eq (t : Tracking) (q : Seq) : t.decisionOf q =
    (t.find q).bind fun r =>
      match r.phase with
      | .decided d => some d
      | _ => none := by
  unfold Tracking.decisionOf
  cases t.find q with
  | none => rfl
  | some r => cases h : r.phase <;> simp [h]

/-- The records behind the first place of a sequence (R141). -/
theorem behind_append {q : Seq} {before : List Seq} (h : q ∉ before) (after : List Seq) : behind q (before ++ q :: after) = after := by
  induction before with
  | nil => simp [behind]
  | cons x xs ih =>
    obtain ⟨hx, hxs⟩ := not_or.mp (mt List.mem_cons.mpr h)
    simp only [List.cons_append, behind, if_neg (Ne.symm hx), ih hxs]

/-- Spoiling by the record's state: spoiled already, without a good decision, or late (R46, R135, R141). -/
theorem Tracking.spoil_cases {t : Tracking} {q : Seq} {r : Record} (hr : t.find q = some r) (w : SpoilReason) :
    (r.spoiled ≠ none → t.spoil q w = t) ∧
    (r.spoiled = none → (∀ d, r.phase ≠ .decided (.good d)) → t.spoil q w = t.modify q fun y => { y with spoiled := some w }) ∧
    ∀ stack, r.spoiled = none → r.phase = .decided (.good stack) →
      t.spoil q w = (t.modify q fun y => { y with spoiled := some w }).lateSpoil q := by
  refine ⟨fun h => ?_, fun h hphase => ?_, fun stack h hphase => ?_⟩
  · have hsome : r.spoiled.isSome = true := Option.isSome_iff_ne_none.mpr h
    simp only [Tracking.spoil, hr, hsome, if_true]
  · cases hp : r.phase with
    | feeding => simp only [Tracking.spoil, hr, h, hp, Option.isSome_none, Bool.false_eq_true, if_false]
    | inPath => simp only [Tracking.spoil, hr, h, hp, Option.isSome_none, Bool.false_eq_true, if_false]
    | decided d =>
      cases d with
      | purge => simp only [Tracking.spoil, hr, h, hp, Option.isSome_none, Bool.false_eq_true, if_false]
      | good k => exact absurd hp (hphase k)
  · simp only [Tracking.spoil, hr, h, hphase, Option.isSome_none, Bool.false_eq_true, if_false]

/-- Late spoiling of a good decision makes it PURGE (R141). -/
theorem Record.revert_phase {r : Record} {k : Stack} (h : r.phase = .decided (.good k)) : r.revert.phase = .decided .purge := by
  simp only [Record.revert, h]

/-- What `find` answers after late spoiling (R141). -/
theorem Tracking.find_lateSpoil (t : Tracking) (q k : Seq) : (t.lateSpoil q).find k =
    (t.find k).map fun r => if r.seq = q ∨ r.seq ∈ behind q t.gateQueue then r.revert else r := by
  refine Tracking.find_map t _ (fun r => ?_) k
  split
  · exact r.revert_facts.1
  · rfl

/-- What `find` answers after a record is marked spoiled. -/
theorem Tracking.find_marked (t : Tracking) (q k : Seq) (w : SpoilReason) :
    (t.modify q fun y => { y with spoiled := some w }).find k =
      (t.find k).map fun r => if r.seq = q then { r with spoiled := some w } else r :=
  Tracking.find_modify t q k _ fun _ => rfl

/-- Settles O54: late spoiling reverts the record and those behind it, and no other. -/
theorem spoilingMarks : Obligations.SpoilingMarks := by
  intro t q w r hr
  obtain ⟨hspoiled, hplain, hlate⟩ := Tracking.spoil_cases hr w
  refine ⟨hspoiled, hplain, fun stack before after hnone hphase hqueue hbefore => ?_⟩
  rw [hlate stack hnone hphase]
  have hbehind : behind q t.gateQueue = after := hqueue ▸ behind_append hbefore after
  have hfind (k : Seq) (y : Record) (hy : t.find k = some y) :
      ((t.modify q fun z => { z with spoiled := some w }).lateSpoil q).find k =
        some (if k = q ∨ k ∈ after then (if k = q then { y with spoiled := some w } else y).revert else y) := by
    have hseq := Tracking.seq_of_find hy
    rw [Tracking.find_lateSpoil, Tracking.find_marked, hy]
    by_cases hk : k = q
    · subst hk
      have hmarked : Record.seq { y with spoiled := some w } = k := hseq
      simp only [Option.map_some, hseq, if_pos, hmarked, true_or]
    · have hbehind' : behind q (t.modify q fun z => { z with spoiled := some w }).gateQueue = after := hbehind
      simp only [Option.map_some, hseq, if_neg hk, hbehind']
  have hseq := Tracking.seq_of_find hr
  refine ⟨⟨_, hfind q r hr, ?_, ?_⟩, rfl, rfl, rfl, fun y hy k hgood => ?_, fun y hy hafter => ?_, ?_⟩
  · rw [if_pos (.inl rfl), if_pos rfl]
    exact (Record.revert_facts _).2.1
  · rw [if_pos (.inl rfl), if_pos rfl]
    exact Record.revert_phase hphase
  · rw [Tracking.decisionOf_eq] at hgood ⊢
    cases hf : t.find y with
    | none => simp [hf] at hgood
    | some z =>
      have hz : z.phase = .decided (.good k) := by
        cases hp : z.phase <;> simp_all
      have hmarked : (if y = q then { z with spoiled := some w } else z).phase = .decided (.good k) := by
        split <;> exact hz
      rw [hfind y z hf, if_pos (.inr hy), Option.bind_some, Record.revert_phase hmarked]
  · have hne : y ≠ q := fun h => hbefore (h ▸ hy)
    rw [Tracking.decisionOf_eq, Tracking.decisionOf_eq]
    cases hf : t.find y with
    | none =>
      rw [Tracking.find_lateSpoil, Tracking.find_marked, hf]
      rfl
    | some z => rw [hfind y z hf, if_neg (not_or.mpr ⟨hne, hafter⟩)]
  · change (if t.gateQueue.head? = some q then true else t.purgeGate) = _
    have hhead : t.gateQueue.head? = some q ↔ before = [] := by
      rw [hqueue]
      cases before with
      | nil => simp
      | cons x xs =>
        have hx : x ≠ q := fun h => hbefore (h ▸ List.mem_cons_self)
        simp [hx]
    simp only [hhead]

end Sys2Proof.Machine

/-! # Proofs: trailing edges and delivery -/

namespace Sys2Proof.Machine

/-- The state in which a trailing edge's action takes place: the edge is taken, its sensor's entry is empty and the deadlines are those
of R129 (R130). -/
def State.vacated (sn : Sensor) (e : Edge) (ds : List Deadline) (s : State) : State :=
  { s with
    clock := { s.clock with edges := s.clock.edges.erase e }
    track := { s.track with occupants := s.track.occupants.set sn.idx none, deadlines := ds } }

/-- The deadlines after the occupancy `o` at a sensor has ended (R129). -/
def State.endedDeadlines (sn : Sensor) (o : Occupancy) (s : State) : List Deadline :=
  ((s.track.putOccupant sn none).moveStuck s.setup sn o).deadlines

/-- A trailing edge of an occupied sensor: the entry is emptied, the stuck deadline follows, and a record still in the table has its
action (R130). -/
theorem exec_trailingEdge_occupied {s : State} {sn : Sensor} {e : Edge} {o : Occupancy} (he : s.edgeNow sn false = some e)
    (hdriven : s.driven = true) (ho : s.track.occupant sn = some o) :
    (s.track.recordOf o = none → exec (.trailingEdge sn) s = .next (s.vacated sn e (s.endedDeadlines sn o))) ∧
    ∀ r, s.track.recordOf o = some r →
      exec (.trailingEdge sn) s = .next (trailingAction sn r o e.stamp (s.vacated sn e (s.endedDeadlines sn o))) := by
  have hvacated : (s.dropEdge e).onTrack (fun t => (t.putOccupant sn none).moveStuck s.setup sn o) =
      s.vacated sn e (s.endedDeadlines sn o) :=
    congrArg (fun t : Tracking => { s with clock := { s.clock with edges := s.clock.edges.erase e }, track := t })
      (Tracking.moveStuck_frame s.setup sn o (s.track.putOccupant sn none))
  have ho' : (s.dropEdge e).track.occupant sn = some o := ho
  rw [exec_trailingEdge_driven he hdriven, ← hvacated]
  refine ⟨fun hrecord => ?_, fun r hrecord => ?_⟩
  · have hrecord' : (s.dropEdge e).track.recordOf o = none := hrecord
    simp only [takeTrailing, ho', hrecord']
    rfl
  · have hrecord' : (s.dropEdge e).track.recordOf o = some r := hrecord
    simp only [takeTrailing, ho', hrecord']
    rfl

/-- An occupancy has no record in the table when the record of its sequence, if any, is of another launch (log 30). -/
theorem Tracking.recordOf_none {t : Tracking} {o : Occupancy} (h : ∀ r, t.find o.seq = some r → r.launchCount ≠ o.launch) :
    t.recordOf o = none := by
  simpa [Tracking.recordOf] using h

theorem Tracking.recordOf_some {t : Tracking} {o : Occupancy} {r : Record} (h : t.find o.seq = some r)
    (hlaunch : r.launchCount = o.launch) : t.recordOf o = some r := by
  simp [Tracking.recordOf, h, hlaunch]

/-- A length is out of tolerance when it is not within it on either side (R85). -/
theorem tolerance_lt_lengthGap (tol m n : Nat) : tol < lengthGap m n ↔ ¬(m ≤ n + tol ∧ n ≤ m + tol) := by
  unfold lengthGap
  omega

/-- The FEED trailing edge measures the sheet, and spoils it when its length is out of tolerance (R85, R131). -/
theorem measureSheet_eq (r : Record) (o : Occupancy) (stamp : PathCount) (s : State) {m : Nat} (hm : m = (stamp - o.stamp).toNat) :
    measureSheet r o stamp s =
      { s with
        track :=
          if m ≤ r.copy.order.length + s.setup.tolerance ∧ r.copy.order.length ≤ m + s.setup.tolerance then
            s.track.modify r.seq fun y => { y with measured := some m }
          else (s.track.modify r.seq fun y => { y with measured := some m }).spoil r.seq .length } := by
  subst hm
  by_cases hfits : (stamp - o.stamp).toNat ≤ r.copy.order.length + s.setup.tolerance ∧
      r.copy.order.length ≤ (stamp - o.stamp).toNat + s.setup.tolerance
  · rw [if_pos hfits]
    exact if_neg (mt (tolerance_lt_lengthGap _ _ _).mp (not_not_intro hfits))
  · rw [if_neg hfits]
    exact if_pos ((tolerance_lt_lengthGap _ _ _).mpr hfits)

/-- Settles O52: by the record of the occupancy, then by the sensor. -/
theorem trailingEdgeActs : Obligations.TrailingEdgeActs := by
  intro s sn e o clock he hdriven ho hclock
  subst hclock
  obtain ⟨hgone, hacts⟩ := exec_trailingEdge_occupied he hdriven ho
  refine ⟨_, _, Tracking.moveStuck_follows s.setup s.track sn o, rfl, fun h => hgone (Tracking.recordOf_none h),
    fun r m hr hlaunch hm => ?_⟩
  have hexec := hacts r (Tracking.recordOf_some hr hlaunch)
  have hseq := Tracking.seq_of_find hr
  refine ⟨fun hsn => ?_, fun hsn => ?_, fun hsn face hface => ?_⟩
  · subst hsn
    rw [hexec, ← hseq]
    exact congrArg _ (measureSheet_eq r o e.stamp _ hm)
  · obtain rfl | rfl | rfl := hsn
    · exact hexec
    · exact hexec
    · exact hexec
  · subst hsn hface
    rw [hexec, ← hseq]
    rfl

/-! ## The EXIT trailing edge (R143, R144) -/

/-- The gate lines of a tracking table that a sheet leaves, its queue and lines being given (R138, R140). -/
theorem Tracking.leaveGate_of {t : Tracking} {q : Seq} {gate : List Seq} {purge jog : Bool}
    (hgate : gate = t.gateQueue.filter (fun y => y != q))
    (hkept : t.gateQueue.head? ≠ some q ∨ gate = [] → (purge, jog) = (t.purgeGate, t.jogB))
    (hshown : ∀ x tail, t.gateQueue.head? = some q → gate = x :: tail →
      (purge, jog) = gateLevels (t.decisionOf x) t.purgeGate t.jogB) :
    t.leaveGate q = { t with gateQueue := gate, purgeGate := purge, jogB := jog } := by
  subst hgate
  obtain ⟨lines, hleave, hsame, hnew⟩ := Tracking.leaveGate_spec t q
  have hlines : (purge, jog) = lines := by
    by_cases hhead : t.gateQueue.head? = some q
    · cases hq : t.gateQueue.filter (fun y => y != q) with
      | nil => rw [hkept (.inr hq), hsame (.inr hq)]
      | cons x tail => rw [hshown x tail hhead hq, hnew x tail hhead hq]
    · rw [hkept (.inl hhead), hsame (.inl hhead)]
  rw [hleave, ← hlines]

/-- What a sheet that leaves the path takes with it (R136, R106, R138), the gate being as given. -/
def State.left (q : Seq) (gate : List Seq) (purge jog : Bool) (s : State) : State :=
  { s with
    track :=
      { s.track with
        table := s.track.table.filter fun y => y.seq != q
        gateQueue := gate
        purgeGate := purge
        jogB := jog }
    frames := s.frames.closeSheet q
    launch := (s.freeSheet q).launch }

theorem State.leavePath_eq {s : State} {q : Seq} {gate : List Seq} {purge jog : Bool}
    (h : s.track.leaveGate q = { s.track with gateQueue := gate, purgeGate := purge, jogB := jog }) :
    s.leavePath q = s.left q gate purge jog := by
  rw [State.leavePath_frame, h]
  rfl

/-- Settles O53: the sheet leaves the path, and is delivered or diverted by its decision. -/
theorem exitEdgeDelivers : Obligations.ExitEdgeDelivers := by
  intro s e o r q gate purge jog last he hdriven hlast ho hr hlaunch hq hgate hkept hshown
  subst hq
  have hseq := Tracking.seq_of_find hr
  have hexec := (exec_trailingEdge_occupied he hdriven ho).2 r (Tracking.recordOf_some hr hlaunch)
  generalize hds : s.endedDeadlines .exit o = ds at hexec
  have hleaves : ∀ d, ((s.vacated .exit e ds).onTrack fun t => { t with dDel := d }).leavePath o.seq =
      ((s.vacated .exit e ds).onTrack fun t => { t with dDel := d }).left o.seq gate purge jog := fun d =>
    State.leavePath_eq (Tracking.leaveGate_of (t := ((s.vacated .exit e ds).onTrack fun t => { t with dDel := d }).track)
      hgate hkept hshown)
  have htable : (s.seqr.path = .draining ∧ ∀ y ∈ s.track.table, y.seq = o.seq) ↔
      s.seqr.path = .draining ∧ (s.track.table.filter fun y => y.seq != o.seq) = [] := by
    rw [filter_seq_eq_nil]
  refine ⟨ds, _, hds ▸ Tracking.moveStuck_follows s.setup s.track .exit o, rfl, fun stack s1 hphase hs1 => ?_,
    fun s1 hphase hs1 => ?_⟩
  · have hdeliver : exec (.trailingEdge .exit) s = .next (s1.release r.copy.order).drainDone := by
      rw [hexec]
      simp only [trailingAction, exitTrailing, hphase, deliver, hseq]
      rw [hleaves, hs1]
      rfl
    rw [hdeliver, State.drainDone_eq (b := last)]
    rw [hlast, htable, State.release_frame, hs1]
  · have hdivert : exec (.trailingEdge .exit) s = .next s1.drainDone := by
      rw [hexec]
      simp only [trailingAction, exitTrailing, hphase, divert, hseq]
      rw [show (s.vacated .exit e ds).leavePath o.seq = _ from hleaves s.track.dDel, State.toReprint_eq, hs1]
      rfl
    rw [hdivert, State.drainDone_eq (b := last)]
    have hpath : s1.seqr.path = s.seqr.path := by
      rw [hs1]
      dsimp only
      split <;> rfl
    rw [hlast, htable, hpath, hs1]

end Sys2Proof.Machine

/-! # Proofs: leading edges and the gate decision -/

namespace Sys2Proof.Machine

/-! ## Arrivals and occupancies (R125, R129) -/

theorem Sensor.idx_inj {a b : Sensor} : (a.idx : Nat) = b.idx ↔ a = b := by
  cases a <;> cases b <;> decide

theorem Sensor.mem_all (sn : Sensor) : sn ∈ Sensor.all := by
  cases sn <;> decide

/-- The queues after one of them is replaced. -/
theorem arrivals_set (v : Vector (List Arrival) 6) (sn other : Sensor) (l : List Arrival) :
    (v.set sn.idx l)[other.idx] = if other = sn then l else v[other.idx] := by
  simp only [Fin.getElem_fin, Vector.getElem_set, Sensor.idx_inj, eq_comm]

/-- An arrival is inserted behind every one expected before or with it, and before the first expected after it (R125). -/
theorem insertArrival_split (a : Arrival) (l : List Arrival) : ∃ before after, l = before ++ after ∧
    insertArrival a l = before ++ a :: after ∧ (∀ y ∈ before, isAfter y.expected a.expected = false) ∧
    ∀ y, after.head? = some y → isAfter y.expected a.expected = true := by
  induction l with
  | nil => exact ⟨[], [], rfl, rfl, by simp, by simp⟩
  | cons x xs ih =>
    by_cases hx : isAfter x.expected a.expected = true
    · exact ⟨[], x :: xs, rfl, by simp [insertArrival, hx], by simp, by simp [hx]⟩
    · obtain ⟨before, after, hxs, hinsert, hbefore, hafter⟩ := ih
      refine ⟨x :: before, after, by rw [hxs, List.cons_append], by simp [insertArrival, hx, hinsert], ?_, hafter⟩
      simpa using ⟨by simpa using hx, hbefore⟩

/-- A record occupies no sensor when no occupant is of its sequence and launch (R129). -/
theorem Tracking.occupancies_isEmpty (t : Tracking) (o : Occupancy) :
    (t.occupancies o).isEmpty = true ↔ ∀ other x, t.occupant other = some x → ¬(x.seq = o.seq ∧ x.launch = o.launch) := by
  simp only [List.isEmpty_iff, Tracking.occupancies, List.filterMap_eq_nil_iff]
  constructor
  · intro h other x hx hsame
    have hnone := h other (Sensor.mem_all other)
    simp [hx, Occupancy.sameRecord, hsame] at hnone
  · intro h other _
    cases hx : t.occupant other with
    | none => rfl
    | some x =>
      have hother := h other x hx
      simp only [Occupancy.sameRecord, Bool.and_eq_true, beq_iff_eq, if_neg hother]

/-! ## The match of a head (R127, R129) -/

/-- The occupancy that a head's match begins (R129). -/
def Record.occupancyAt (r : Record) (stamp : PathCount) : Occupancy :=
  ⟨r.seq, r.nextVisit.getD 0, stamp, r.launchCount, r.copy.order.length⟩

/-- The visit that a record awaits once its next one has taken place (R124). -/
def Record.visitAhead (r : Record) : Option Nat := visitAfter r.copy.order.sides (r.nextVisit.getD 0)

/-- The stuck deadline of a match, when the record occupies no other sensor (R129). -/
def stuckOnMatch (sn : Sensor) (r : Record) (stamp : PathCount) (u : Setup) (t : Tracking) : List Deadline :=
  if (t.occupancies (r.occupancyAt stamp)).isEmpty then [⟨u.stuckDeadline stamp r.copy.order.length, .stuck, sn, r.seq⟩] else []

/-- The tracking table as a head leaves its queue for the occupant's place, its next arrival aside (R127, R129). -/
def entered (sn : Sensor) (rest : List Arrival) (r : Record) (stamp : PathCount) (u : Setup) (t : Tracking) : Tracking :=
  { t with
    table := t.table.map fun x => if x.seq = r.seq then { x with leadStamp := some stamp, nextVisit := r.visitAhead } else x
    arrivals := t.arrivals.set sn.idx rest
    occupants := t.occupants.set sn.idx (some (r.occupancyAt stamp))
    deadlines := t.deadlines.filter (fun d => !(d.kind == .windowClose && d.owner == r.seq)) ++ stuckOnMatch sn r stamp u t }

/-- A match enters the sensor, and the record then awaits its next visit (R127). -/
theorem matched_eq (sn : Sensor) (rest : List Arrival) (r : Record) (stamp : PathCount) (u : Setup) (t : Tracking) :
    matched sn rest r stamp u t =
      match r.visitAhead with
      | some n => (entered sn rest r stamp u t).await u r.seq r.launchCount r.copy.order.sides n
      | none => entered sn rest r stamp u t := by
  have hentered : Tracking.modify r.seq (fun x => { x with leadStamp := some stamp, nextVisit := r.visitAhead })
      ((if (t.occupancies (r.occupancyAt stamp)).isEmpty then
          (Tracking.withdraw .windowClose r.seq (t.putQueue sn rest)).setDeadline
            ⟨u.stuckDeadline stamp r.copy.order.length, .stuck, sn, r.seq⟩
        else Tracking.withdraw .windowClose r.seq (t.putQueue sn rest)).putOccupant sn (some (r.occupancyAt stamp))) =
      entered sn rest r stamp u t := by
    by_cases hempty : (t.occupancies (r.occupancyAt stamp)).isEmpty = true
    · simp only [if_pos hempty, entered, stuckOnMatch]
      rfl
    · simp only [if_neg hempty, entered, stuckOnMatch, List.append_nil]
      rfl
  rw [← hentered]
  rfl

/-- The tracking table of a match: the place ahead, if there is one, gets the arrival and its deadline (R84, R124, R125). -/
theorem matched_ahead {r : Record} {ahead : Option (Sensor × Nat)} (hahead : r.visitAhead.bind (routeVisit r.copy.order.sides) = ahead)
    (sn : Sensor) (rest : List Arrival) (stamp : PathCount) (u : Setup) (t : Tracking) :
    matched sn rest r stamp u t =
      { entered sn rest r stamp u t with
        arrivals := ahead.elim (t.arrivals.set sn.idx rest) fun x =>
          (t.arrivals.set sn.idx rest).set x.1.idx
            (insertArrival ⟨r.seq, u.expected r.launchCount x.2⟩ (t.arrivals.set sn.idx rest)[x.1.idx])
        deadlines := (entered sn rest r stamp u t).deadlines ++
          ahead.toList.map fun x => ⟨u.windowDeadline (u.expected r.launchCount x.2), .windowClose, x.1, r.seq⟩ } := by
  subst hahead
  rw [matched_eq]
  cases hnext : r.visitAhead with
  | none => simp [entered]
  | some n =>
    cases hvisit : routeVisit r.copy.order.sides n with
    | none => simp [Tracking.await, hvisit, entered]
    | some x =>
      dsimp only
      rw [Tracking.await_some hvisit]
      simp only [Option.bind_some, hvisit]
      rfl

/-- A delivered leading edge within its head's window matches the head (R126, R127). -/
theorem exec_leadingEdge_within {s : State} {sn : Sensor} {e : Edge} {h : Arrival} {rest : List Arrival} {r : Record}
    (he : s.edgeNow sn true = some e) (hdriven : s.driven = true) (hqueue : s.track.queueAt sn = h :: rest)
    (hwithin : s.setup.classify e.stamp (s.setup.windowOpen h.expected) = .within) (hr : s.track.find h.seq = some r) :
    exec (.leadingEdge sn) s = .next (leadingAction r (r.nextVisit.getD 0)
      { s.dropEdge e with track := matched sn rest r e.stamp s.setup s.track }) := by
  have hqueue' : (s.dropEdge e).track.queueAt sn = h :: rest := hqueue
  have hwithin' : (s.dropEdge e).setup.classify e.stamp ((s.dropEdge e).setup.windowOpen h.expected) = .within := hwithin
  have hr' : (s.dropEdge e).track.find h.seq = some r := hr
  rw [exec_leadingEdge_driven he hdriven]
  simp only [takeLeading, hqueue', hwithin', hr', reduceCtorEq, if_false, matchHead_eq]
  rfl

/-! ## The gate (R138 to R140) -/

/-- A gate queue with a head shows the head's decision (R140). -/
theorem Tracking.showHead_cons (t : Tracking) (q : Seq) (rest : List Seq) :
    Tracking.showHead { t with gateQueue := q :: rest } =
      { t with
        gateQueue := q :: rest
        purgeGate := (gateLevels (t.decisionOf q) t.purgeGate t.jogB).1
        jogB := (gateLevels (t.decisionOf q) t.purgeGate t.jogB).2 } := by
  have hdecision : Tracking.decisionOf { t with gateQueue := q :: rest } q = t.decisionOf q := rfl
  simp only [Tracking.showHead, hdecision]
  rcases t.decisionOf q with _ | (k | _)
  · rfl
  · cases k <;> rfl
  · rfl

/-- A sheet joins the gate queue's tail, and the lines are its own when it is the head (R138, R140). -/
theorem Tracking.joinGate_eq (t : Tracking) (q : Seq) : t.joinGate q =
    { t with
      gateQueue := t.gateQueue ++ [q]
      purgeGate := if t.gateQueue = [] then (gateLevels (t.decisionOf q) t.purgeGate t.jogB).1 else t.purgeGate
      jogB := if t.gateQueue = [] then (gateLevels (t.decisionOf q) t.purgeGate t.jogB).2 else t.jogB } := by
  cases hqueue : t.gateQueue with
  | nil =>
    simp only [Tracking.joinGate, hqueue, List.isEmpty_nil, if_true]
    exact Tracking.showHead_cons t q []
  | cons x xs =>
    simp only [Tracking.joinGate, hqueue, List.isEmpty_cons, Bool.false_eq_true, if_false, reduceCtorEq]

theorem Tracking.find_modify_self {t : Tracking} {q : Seq} {x : Record} {g : Record → Record} (hg : ∀ r, (g r).copy = r.copy)
    (hx : t.find q = some x) : (t.modify q g).find q = some (g x) := by
  rw [Tracking.find_modify t q q g hg, hx, Option.map_some, if_pos (Tracking.seq_of_find hx)]

theorem Tracking.find_modify_other {t : Tracking} {q k : Seq} {g : Record → Record} (hg : ∀ r, (g r).copy = r.copy) (hk : k ≠ q) :
    (t.modify q g).find k = t.find k := by
  rw [Tracking.find_modify t q k g hg]
  cases hx : t.find k with
  | none => rfl
  | some x => rw [Option.map_some, if_neg (Tracking.seq_of_find hx ▸ hk)]

/-- The decision for a sheet (R139). -/
def Record.decisionFor (x : Record) (q dGate : Seq) : Decision :=
  if x.spoiled = none ∧ q = dGate then .good x.copy.order.dest else .purge

/-- The tracking table as a sheet is decided, before it joins the gate queue (R139). -/
def Tracking.decided (t : Tracking) (q : Seq) (d : Decision) : Tracking :=
  { t.modify q (fun y => { y with phase := .decided d }) with dGate := if d = .purge then t.dGate else t.dGate + 1 }

theorem Tracking.decide_eq {t : Tracking} {q : Seq} {x : Record} (hx : t.find q = some x) :
    t.decide q = (t.decided q (x.decisionFor q t.dGate)).joinGate q := by
  by_cases hgood : x.spoiled = none ∧ q = t.dGate
  · simp only [Tracking.decide, hx, Record.decisionFor, if_pos hgood]
    rfl
  · simp only [Tracking.decide, hx, Record.decisionFor, if_neg hgood]
    rfl

theorem Tracking.find_decided {t : Tracking} {q : Seq} {x : Record} (d : Decision) (hx : t.find q = some x) :
    (t.decided q d).find q = some { x with phase := .decided d } :=
  Tracking.find_modify_self (fun _ => rfl) hx

/-! ## The action of a visit (R128) -/

/-- What the action of visit `v` of the record `x` of the sequence `q` makes of the state, the record being `x'` afterwards: the frames'
window and the standing conditions, its own record and the gate's state change, in the cases that the fields tell apart (R40, R41,
R128, R136, R137). -/
structure Acted (q : Seq) (v : Nat) (x x' : Record) (s t : State) : Prop where
  rest : t = { s with track := t.track, frames := t.frames, mirror := t.mirror }
  track : t.track =
    { s.track with
      table := t.track.table
      gateQueue := t.track.gateQueue
      purgeGate := t.track.purgeGate
      jogB := t.track.jogB
      divertLoop := t.track.divertLoop
      dGate := t.track.dGate }
  seqs : t.track.table.map Record.seq = s.track.table.map Record.seq
  found : t.track.find q = some x'
  record : x' = { x with phase := x'.phase, spoiled := x'.spoiled }
  others : (∀ d, x.phase ≠ .decided d) → ∀ k, k ≠ q → t.track.find k = s.track.find k
  quiet : (∀ d, x.phase ≠ .decided d) → ¬x.copy.order.sides.finalFuse v → (v ≠ 1 → x'.phase = x.phase) ∧
    t.track.gateQueue = s.track.gateQueue ∧ t.track.dGate = s.track.dGate ∧ t.track.purgeGate = s.track.purgeGate ∧
    t.track.jogB = s.track.jogB
  first : v = 1 → x'.phase = .inPath
  loop : v = 4 → x.copy.order.sides = .duplex → t.track.divertLoop = true
  loopKept : v ≠ 4 → v ≠ 8 → t.track.divertLoop = s.track.divertLoop
  closed : (∀ side ref, ¬x.copy.order.asksOpen v side ref) → t.frames = s.frames ∧ t.mirror = s.mirror ∧ x'.spoiled = x.spoiled
  opened : ∀ side ref, x.copy.order.asksOpen v side ref →
    (2 ≤ s.frames.openFaces → t.frames = s.frames ∧ t.mirror = { s.mirror with fetchFault := true } ∧
      x'.spoiled = some (x.spoiled.getD .fetch)) ∧
    (s.frames.openFaces < 2 → t.mirror = s.mirror ∧ x'.spoiled = x.spoiled ∧
      t.frames = s.frames.openFace ref.frame ⟨q, side⟩)

/-- A visit without an action. -/
theorem Acted.refl {q : Seq} {v : Nat} {x : Record} {s : State} (hx : s.track.find q = some x) (h1 : v ≠ 1)
    (h4 : ¬(v = 4 ∧ x.copy.order.sides = .duplex)) (hopen : ∀ side ref, ¬x.copy.order.asksOpen v side ref) : Acted q v x x s s where
  rest := rfl
  track := rfl
  seqs := rfl
  found := hx
  record := rfl
  others _ _ _ := rfl
  quiet _ _ := ⟨fun _ => rfl, rfl, rfl, rfl, rfl⟩
  first h := absurd h h1
  loop h hsides := absurd ⟨h, hsides⟩ h4
  loopKept _ _ := rfl
  closed _ := ⟨rfl, rfl, rfl⟩
  opened side ref h := absurd h (hopen side ref)

/-- A visit other than REG's opens no face. -/
theorem not_asksOpen {o : Order} {v : Nat} (h2 : v ≠ 2) (h6 : v ≠ 6) (side : Side) (ref : FrameRef) : ¬o.asksOpen v side ref := by
  rintro (⟨h, -⟩ | ⟨h, -⟩)
  · exact h2 h
  · exact h6 h

/-- Visit 1: the phase becomes IN_PATH (R128). -/
theorem acted_first {q : Seq} {x : Record} {s : State} (hx : s.track.find q = some x) :
    Acted q 1 x { x with phase := .inPath } s (s.onTrack (Tracking.modify q fun y => { y with phase := .inPath })) where
  rest := rfl
  track := rfl
  seqs := (s.track.modify_kept q (fun y => { y with phase := .inPath }) fun _ => rfl).1
  found := Tracking.find_modify_self (g := fun y => { y with phase := .inPath }) (fun _ => rfl) hx
  record := rfl
  others _ _ hk := Tracking.find_modify_other (g := fun y => { y with phase := .inPath }) (fun _ => rfl) hk
  quiet _ _ := ⟨fun h => absurd rfl h, rfl, rfl, rfl, rfl⟩
  first _ := rfl
  loop h := absurd h (by decide)
  loopKept _ _ := rfl
  closed _ := ⟨rfl, rfl, rfl⟩
  opened side ref h := absurd h (not_asksOpen (by decide) (by decide) side ref)

/-- A duplex sheet's visit 4: DIVERT_LOOP rises (R137). -/
theorem acted_divert {q : Seq} {x : Record} {s : State} (hx : s.track.find q = some x) :
    Acted q 4 x x s (s.onTrack fun t => { t with divertLoop := true }) where
  rest := rfl
  track := rfl
  seqs := rfl
  found := hx
  record := rfl
  others _ _ _ := rfl
  quiet _ _ := ⟨fun _ => rfl, rfl, rfl, rfl, rfl⟩
  first h := absurd h (by decide)
  loop _ _ := rfl
  loopKept h := absurd rfl h
  closed _ := ⟨rfl, rfl, rfl⟩
  opened side ref h := absurd h (not_asksOpen (by decide) (by decide) side ref)

/-- Spoiling a record that is in the table: the first reason stands, and a record without a decision takes the mark alone (R135). -/
theorem Tracking.spoil_found {t : Tracking} {q : Seq} {x : Record} (hx : t.find q = some x) (w : SpoilReason) :
    ∃ x', (t.spoil q w).find q = some x' ∧ x' = { x with phase := x'.phase, spoiled := some (x.spoiled.getD w) } ∧
      ((∀ d, x.phase ≠ .decided d) → x'.phase = x.phase ∧ (∀ k, k ≠ q → (t.spoil q w).find k = t.find k) ∧
        (t.spoil q w).dGate = t.dGate ∧ (t.spoil q w).purgeGate = t.purgeGate) := by
  obtain ⟨hspoiled, hplain, hlate⟩ := Tracking.spoil_cases hx w
  cases hw : x.spoiled with
  | some y =>
    rw [hspoiled (by rw [hw]; exact Option.some_ne_none y)]
    refine ⟨x, hx, ?_, fun _ => ⟨rfl, fun _ _ => rfl, rfl, rfl⟩⟩
    rw [Option.getD_some, ← hw]
  | none =>
    by_cases hgood : ∃ stack, x.phase = .decided (.good stack)
    · obtain ⟨stack, hphase⟩ := hgood
      rw [hlate stack hw hphase, Tracking.find_lateSpoil, Tracking.find_marked, hx]
      have hseq := Tracking.seq_of_find hx
      have hmarked : Record.seq { x with spoiled := some w } = q := hseq
      simp only [Option.map_some, hseq, if_pos, hmarked, true_or]
      refine ⟨_, rfl, ?_, fun h => absurd hphase (h _)⟩
      simp only [Record.revert, hphase]
      rfl
    · rw [hplain hw fun d hd => hgood ⟨d, hd⟩]
      exact ⟨_, Tracking.find_modify_self (fun _ => rfl) hx, rfl,
        fun _ => ⟨rfl, fun _ hk => Tracking.find_modify_other (fun _ => rfl) hk, rfl, rfl⟩⟩

/-- A REG visit with a frame to open (R40, R41, R136). -/
theorem acted_openFor {q : Seq} {v : Nat} {x : Record} {s : State} {side : Side} {ref : FrameRef} (hx : s.track.find q = some x)
    (hv : v = 2 ∨ v = 6)
    (hasks : ∀ side' ref', x.copy.order.asksOpen v side' ref' → side' = side ∧ ref' = ref)
    (hopen : x.copy.order.asksOpen v side ref) :
    ∃ x', Acted q v x x' s (openFor q side (some ref) s) := by
  have h1 : v ≠ 1 := by omega
  have h4 : v ≠ 4 := by omega
  by_cases hfull : 2 ≤ s.frames.openFaces
  · obtain ⟨x', hfound, hrecord, hplain⟩ := Tracking.spoil_found hx .fetch
    have haction : openFor q side (some ref) s =
        { s with track := s.track.spoil q .fetch, mirror := { s.mirror with fetchFault := true } } := if_pos hfull
    rw [haction]
    refine ⟨x', rfl, ?_, (s.track.spoil_kept q .fetch).1, hfound, ?_, fun h => (hplain h).2.1, fun h _ => ?_,
      fun h => absurd h h1, fun h => absurd h h4, fun _ _ => ?_, fun h => absurd hopen (h side ref), fun _ _ _ => ⟨fun _ => ?_, fun h => ?_⟩⟩
    · dsimp only
      rw [Tracking.spoil_frame]
    · rw [hrecord]
    · obtain ⟨hphase, -, hgate, hpurge⟩ := hplain h
      dsimp only
      rw [Tracking.spoil_frame]
      exact ⟨fun _ => hphase, rfl, hgate, hpurge, rfl⟩
    · dsimp only
      rw [Tracking.spoil_frame]
    · refine ⟨rfl, rfl, ?_⟩
      rw [hrecord]
    · omega
  · have haction : openFor q side (some ref) s = { s with frames := s.frames.openFace ref.frame ⟨q, side⟩ } := if_neg hfull
    rw [haction]
    refine ⟨x, rfl, rfl, rfl, hx, rfl, fun _ _ _ => rfl, fun _ _ => ⟨fun _ => rfl, rfl, rfl, rfl, rfl⟩,
      fun h => absurd h h1, fun h => absurd h h4, fun _ _ => rfl, fun h => absurd hopen (h side ref),
      fun side' ref' h => ⟨fun h => absurd h hfull, fun _ => ?_⟩⟩
    obtain ⟨rfl, rfl⟩ := hasks side' ref' h
    exact ⟨rfl, rfl, rfl⟩

/-- The final FUSE visit decides the sheet, which joins the gate queue (R137, R139). -/
theorem finalFuse_eq {q : Seq} {x : Record} {s : State} (hx : s.track.find q = some x) : finalFuse q s =
    { s with track :=
      (Tracking.decided { s.track with divertLoop := false } q (x.decisionFor q s.track.dGate)).joinGate q } :=
  congrArg (fun t : Tracking => { s with track := t })
    (Tracking.decide_eq (t := { s.track with divertLoop := false }) hx)

/-- The final FUSE visit among the actions of R128. -/
theorem acted_finalFuse {q : Seq} {v : Nat} {x : Record} {s : State} (hx : s.track.find q = some x)
    (hfinal : x.copy.order.sides.finalFuse v) : ∃ x', Acted q v x x' s (finalFuse q s) := by
  have hv : v = 4 ∧ x.copy.order.sides = .simplex ∨ v = 8 := by
    obtain ⟨hsides, hv⟩ | ⟨-, hv⟩ := hfinal
    · exact .inl ⟨hv, hsides⟩
    · exact .inr hv
  have hx' : Tracking.find { s.track with divertLoop := false } q = some x := hx
  have hnot := not_asksOpen (o := x.copy.order) (v := v) (by omega) (by omega)
  rw [finalFuse_eq hx, Tracking.joinGate_eq]
  exact ⟨_, rfl, rfl, (s.track.modify_kept q (fun y => { y with phase := .decided (x.decisionFor q s.track.dGate) }) fun _ => rfl).1,
    Tracking.find_decided _ hx', rfl,
    fun _ _ hk => Tracking.find_modify_other (t := s.track) (fun _ => rfl) hk,
    fun _ h => absurd hfinal h, by omega,
    fun h hsides => by
      obtain ⟨-, hsimplex⟩ | h8 := hv
      · exact absurd (hsimplex.symm.trans hsides) (by decide)
      · omega,
    by omega, fun _ => ⟨rfl, rfl, rfl⟩, fun side ref h => absurd h (hnot side ref)⟩

/-- The action of a visit does what its row of R128 says, `x` being the record in the table. -/
theorem acted_leadingAction {r x : Record} {s : State} (v : Nat) (hcopy : x.copy = r.copy) (hx : s.track.find r.seq = some x) :
    ∃ x', Acted r.seq v x x' s (leadingAction r v s) := by
  unfold leadingAction
  rw [← hcopy]
  split
  next => exact ⟨_, acted_first hx⟩
  next =>
    cases hfront : x.copy.order.front with
    | none =>
      refine ⟨x, Acted.refl hx (by decide) (fun h => absurd h.1 (by decide)) ?_⟩
      rintro side ref (⟨-, -, h⟩ | ⟨h, -⟩)
      · rw [hfront] at h
        exact absurd h (by simp)
      · exact absurd h (by decide)
    | some ref =>
      refine acted_openFor hx (.inl rfl) ?_ (.inl ⟨rfl, rfl, hfront⟩)
      rintro side' ref' (⟨-, hside, h⟩ | ⟨h, -⟩)
      · exact ⟨hside, Option.some.inj (h.symm.trans hfront)⟩
      · exact absurd h (by decide)
  next hsides => exact acted_finalFuse hx (.inl ⟨hsides, rfl⟩)
  next => exact ⟨x, acted_divert hx⟩
  next hsides =>
    cases hback : x.copy.order.back with
    | none =>
      refine ⟨x, Acted.refl hx (by decide) (fun h => absurd h.1 (by decide)) ?_⟩
      rintro side ref (⟨h, -⟩ | ⟨-, -, -, h⟩)
      · exact absurd h (by decide)
      · rw [hback] at h
        exact absurd h (by simp)
    | some ref =>
      refine acted_openFor hx (.inr rfl) ?_ (.inr ⟨rfl, hsides, rfl, hback⟩)
      rintro side' ref' (⟨h, -⟩ | ⟨-, -, hside, h⟩)
      · exact absurd h (by decide)
      · exact ⟨hside, Option.some.inj (h.symm.trans hback)⟩
  next hsides => exact acted_finalFuse hx (.inr ⟨hsides, rfl⟩)
  next h1 h2 h4s h4 h6 h8 =>
    refine ⟨x, Acted.refl hx (fun h => ?_) (fun h => h4 h.1 h.2) ?_⟩
    · exact h1 h
    · rintro side ref (⟨h, -⟩ | ⟨h, hsides, -⟩)
      · exact h2 h
      · exact h6 h hsides

/-- The record as its match leaves it, before the visit's action (R127). -/
def Record.entering (r : Record) (stamp : PathCount) : Record := { r with leadStamp := some stamp, nextVisit := r.visitAhead }

theorem find_entered {t : Tracking} {r : Record} (hr : t.find r.seq = some r) (sn : Sensor) (rest : List Arrival) (stamp : PathCount)
    (u : Setup) : (entered sn rest r stamp u t).find r.seq = some (r.entering stamp) :=
  Tracking.find_modify_self (t := t) (g := fun x => { x with leadStamp := some stamp, nextVisit := r.visitAhead }) (fun _ => rfl) hr

theorem find_entered_other {t : Tracking} {r : Record} {k : Seq} (hk : k ≠ r.seq) (sn : Sensor) (rest : List Arrival) (stamp : PathCount)
    (u : Setup) : (entered sn rest r stamp u t).find k = t.find k :=
  Tracking.find_modify_other (t := t) (g := fun x => { x with leadStamp := some stamp, nextVisit := r.visitAhead }) (fun _ => rfl) hk

/-- The queues after a match (R125, R127): the head has left its own, and the arrival ahead stands at its place. -/
theorem matched_queueAt {t m : Tracking} {sn : Sensor} {rest : List Arrival} {q : Seq} {u : Setup} {launch : PathCount}
    {ahead : Option (Sensor × Nat)}
    (hm : m.arrivals = ahead.elim (t.arrivals.set sn.idx rest) fun x =>
      (t.arrivals.set sn.idx rest).set x.1.idx
        (insertArrival ⟨q, u.expected launch x.2⟩ (t.arrivals.set sn.idx rest)[x.1.idx]))
    (other : Sensor) :
    ((∀ k, ahead ≠ some (other, k)) → m.queueAt other = if other = sn then rest else t.queueAt other) ∧
    ∀ k, ahead = some (other, k) →
      m.queueAt other = insertArrival ⟨q, u.expected launch k⟩ (if other = sn then rest else t.queueAt other) := by
  refine ⟨fun h => ?_, fun k hk => ?_⟩
  · unfold Tracking.queueAt
    rw [hm]
    cases ahead with
    | none => exact arrivals_set _ _ _ _
    | some x =>
      have hne : other ≠ x.1 := fun ho => h x.2 (by rw [ho])
      rw [Option.elim_some, arrivals_set, if_neg hne]
      exact arrivals_set _ _ _ _
  · subst hk
    unfold Tracking.queueAt
    rw [hm, Option.elim_some, arrivals_set, if_pos rfl, arrivals_set]

theorem Frames.openFace_eq (f : Frames) (n : Nat) (face : Face) : f.openFace n face =
    { f with
      window :=
        if f.inWindow n then f.window.map fun w => if w.frame = n then { w with faces := w.faces ++ [face] } else w
        else f.window ++ [⟨n, [face]⟩] } := by
  unfold Frames.openFace
  split <;> rfl

/-- Settles O49: the match takes the head from its queue, and the visit's action follows. -/
theorem leadingEdgeMatches : Obligations.LeadingEdgeMatches := by
  intro s sn e h rest r v next o ahead he hdriven hqueue hwithin hr hv hnext hahead ho
  subst hnext hahead ho
  have hexec := exec_leadingEdge_within he hdriven hqueue hwithin hr
  have hseq := Tracking.seq_of_find hr
  have hvisit : r.nextVisit.getD 0 = v := by rw [hv, Option.getD_some]
  have hnextVisit : r.visitAhead = visitAfter r.copy.order.sides v := by rw [Record.visitAhead, hvisit]
  have hoccupancy : r.occupancyAt e.stamp = ⟨h.seq, v, e.stamp, r.launchCount, r.copy.order.length⟩ := by
    rw [Record.occupancyAt, hvisit, hseq]
  rw [hvisit] at hexec
  have hmatched := matched_ahead (r := r) rfl sn rest e.stamp s.setup s.track
  generalize matched sn rest r e.stamp s.setup s.track = m at hexec hmatched
  have hfind : m.find r.seq = some (r.entering e.stamp) := by
    rw [hmatched]
    exact find_entered (hseq.symm ▸ hr) sn rest e.stamp s.setup
  have hother (k : Seq) (hk : k ≠ r.seq) : m.find k = s.track.find k := by
    rw [hmatched]
    exact find_entered_other hk sn rest e.stamp s.setup
  have hseqs : m.table.map Record.seq = s.track.table.map Record.seq := by
    rw [hmatched]
    exact (s.track.modify_kept r.seq (fun x => { x with leadStamp := some e.stamp, nextVisit := r.visitAhead }) fun _ => rfl).1
  obtain ⟨x', hacted⟩ := acted_leadingAction (r := r) (s := { s.dropEdge e with track := m }) v (rfl : (r.entering e.stamp).copy = r.copy) hfind
  refine ⟨_, x', hexec, ?_⟩
  generalize leadingAction r v { s.dropEdge e with track := m } = t at hacted
  obtain ⟨hrest, htrack, hseqs', hfound, hrecord, hothers, hquiet, hfirst, hloop, hloopKept, hclosed, hopened⟩ := hacted
  have hdDel : m.dDel = s.track.dDel := by rw [hmatched]; rfl
  have hdivert : m.divertLoop = s.track.divertLoop := by rw [hmatched]; rfl
  have hgate : m.gateQueue = s.track.gateQueue ∧ m.dGate = s.track.dGate ∧ m.purgeGate = s.track.purgeGate ∧
      m.jogB = s.track.jogB := by
    rw [hmatched]
    exact ⟨rfl, rfl, rfl, rfl⟩
  have harrivals := congrArg Tracking.arrivals hmatched
  have hoccupants : m.occupants = s.track.occupants.set sn.idx (some (r.occupancyAt e.stamp)) := by rw [hmatched]; rfl
  have hdeadlines := congrArg Tracking.deadlines hmatched
  have harrivals' : t.track.arrivals = m.arrivals := by rw [htrack]
  have hoccupants' : t.track.occupants = m.occupants := by rw [htrack]
  have hdeadlines' : t.track.deadlines = m.deadlines := by rw [htrack]
  have hdDel' : t.track.dDel = m.dDel := by rw [htrack]
  rw [hnextVisit] at harrivals hdeadlines
  refine ⟨by rw [hrest]; rfl, by rw [hoccupants', hoccupants, hoccupancy], fun other q0 hq0 => ?_, fun stuck hfresh hheld => ?_,
    hseq ▸ hfound, by rw [hrecord, Record.entering, hnextVisit], hseqs'.trans hseqs, fun hphase => ?_, hdDel'.trans hdDel,
    by rw [hrest]; rfl, by rw [hrest]; rfl, by rw [hrest]; rfl, by rw [hrest]; rfl, by rw [hrest]; rfl, by rw [hrest]; rfl,
    by rw [hrest]; rfl, hfirst, hloop, fun h4 h8 => (hloopKept h4 h8).trans hdivert, hclosed, ?_⟩
  · subst hq0
    obtain ⟨hsame, hnew⟩ := matched_queueAt (harrivals'.trans harrivals) other
    refine ⟨hsame, fun k a hk ha => ?_⟩
    obtain ⟨before, after, hsplit, hinsert, hbefore, hafter⟩ :=
      insertArrival_split ⟨r.seq, s.setup.expected r.launchCount k⟩ (if other = sn then rest else s.track.queueAt other)
    subst ha
    rw [hnew k hk, ← hseq]
    exact ⟨before, after, hsplit, hinsert, hbefore, hafter⟩
  · have hstuck : stuckOnMatch sn r e.stamp s.setup s.track = stuck := by
      have hempty := Tracking.occupancies_isEmpty s.track (r.occupancyAt e.stamp)
      rw [← hseq] at hfresh hheld
      unfold stuckOnMatch
      split
      next h => exact (hfresh (hempty.mp h)).symm
      next h =>
        have hsome : ∃ other x, s.track.occupant other = some x ∧ x.seq = r.seq ∧ x.launch = r.launchCount :=
          Classical.byContradiction fun hno => h (hempty.mpr fun other x hx hsame => hno ⟨other, x, hx, hsame⟩)
        exact (hheld hsome).symm
    rw [hdeadlines', hdeadlines, ← hstuck, ← hseq]
    rfl
  · obtain ⟨hgateQueue, hdGate, hpurge, hjog⟩ := hgate
    refine ⟨fun k hk => (hothers hphase k (hseq.symm ▸ hk)).trans (hother k (hseq.symm ▸ hk)), fun hnot => ?_⟩
    obtain ⟨hsame, hqueue', hdGate', hpurge', hjog'⟩ := hquiet hphase hnot
    exact ⟨hsame, hqueue'.trans hgateQueue, hdGate'.trans hdGate, hpurge'.trans hpurge, hjog'.trans hjog⟩
  · intro side ref hasks
    obtain ⟨hfull, hroom⟩ := hopened side ref hasks
    refine ⟨hfull, fun h2 => ?_⟩
    obtain ⟨hmirror, hspoiled, hframes⟩ := hroom h2
    refine ⟨hmirror, hspoiled, ?_⟩
    rw [hframes, ← hseq]
    exact s.frames.openFace_eq ref.frame ⟨r.seq, side⟩

/-- The action of the final FUSE visit is the gate decision (R128). -/
theorem leadingAction_finalFuse {r : Record} {v : Nat} (s : State) (h : r.copy.order.sides.finalFuse v) :
    leadingAction r v s = finalFuse r.seq s := by
  obtain ⟨hsides, rfl⟩ | ⟨hsides, rfl⟩ := h
  · simp only [leadingAction, hsides]
  · simp only [leadingAction, hsides]

/-- The lines that a decision shows, as a pair (R140). -/
theorem gateLevels_eq (d : Decision) (purgeGate jogB : Bool) : gateLevels (some d) purgeGate jogB =
    match d with
    | .good .a => (false, false)
    | .good .b => (false, true)
    | .purge => (true, jogB) := by
  rcases d with (_ | _) | _ <;> rfl

/-- Settles O50: the match leaves the gate as it was, and the final visit decides. -/
theorem gateDecisionTaken : Obligations.GateDecisionTaken := by
  intro s e h rest r d he hdriven hqueue hwithin hr hroute hd
  have hexec := exec_leadingEdge_within he hdriven hqueue hwithin hr
  have hseq := Tracking.seq_of_find hr
  have hfinal : r.copy.order.sides.finalFuse (r.nextVisit.getD 0) := by
    obtain ⟨hsides, hv⟩ | ⟨hsides, hv⟩ := hroute
    · exact .inl ⟨hsides, by rw [hv, Option.getD_some]⟩
    · exact .inr ⟨hsides, by rw [hv, Option.getD_some]⟩
  have hmatched := matched_ahead (r := r) rfl .fuse rest e.stamp s.setup s.track
  generalize matched .fuse rest r e.stamp s.setup s.track = m at hexec hmatched
  have hfind : m.find r.seq = some (r.entering e.stamp) := by
    rw [hmatched]
    exact find_entered (hseq.symm ▸ hr) .fuse rest e.stamp s.setup
  have hgate : m.gateQueue = s.track.gateQueue := by rw [hmatched]; rfl
  have hdGate : m.dGate = s.track.dGate := by rw [hmatched]; rfl
  have hdDel : m.dDel = s.track.dDel := by rw [hmatched]; rfl
  have hpurge : m.purgeGate = s.track.purgeGate := by rw [hmatched]; rfl
  have hjog : m.jogB = s.track.jogB := by rw [hmatched]; rfl
  have hdecision : (r.entering e.stamp).decisionFor r.seq m.dGate = d := by
    rw [hd, hdGate, hseq]
    rfl
  rw [leadingAction_finalFuse _ hfinal, finalFuse_eq (s := { s.dropEdge e with track := m }) hfind, hdecision] at hexec
  have hdecided : (Tracking.decided { m with divertLoop := false } r.seq d).decisionOf r.seq = some d := by
    rw [Tracking.decisionOf_eq, Tracking.find_decided (t := { m with divertLoop := false }) d hfind]
    rfl
  refine ⟨_, hexec, ?_⟩
  rw [Tracking.joinGate_eq, hdecided, ← hseq, ← hgate, ← hdGate, ← hdDel, ← hpurge, ← hjog]
  refine ⟨hdecided, rfl, rfl, rfl, rfl, rfl, fun hwaiting => ⟨if_neg hwaiting, if_neg hwaiting⟩, fun halone => ?_⟩
  exact (Prod.ext (if_pos halone) (if_pos halone) :
    _ = gateLevels (some d) m.purgeGate m.jogB).trans (gateLevels_eq d m.purgeGate m.jogB)

end Sys2Proof.Machine

/-! # Proofs: the views of the status mirror -/

namespace Sys2Proof.Machine

/-! ## Bits -/

/-- A flag at its place of a byte. -/
theorem getLsbD_bit (x : Bool) {k : Nat} (hk : k < 8) (b : Nat) : (bit x k).getLsbD b = (x && decide (b = k)) := by
  cases x with
  | false => simp [bit]
  | true =>
    simp only [bit, if_true, BitVec.getLsbD_ofNat, Nat.testBit_two_pow, Bool.true_and]
    by_cases h : b = k
    · simp [h, hk]
    · simp [h, Ne.symm h]

/-- The flags of a byte, put together from the last on. -/
theorem getLsbD_foldr_bit (g : Nat → Bool) (l : List Nat) (hl : ∀ k ∈ l, k < 8) (b : Nat) :
    (l.foldr (fun k acc => acc ||| bit (g k) k) 0).getLsbD b = l.any fun k => g k && decide (b = k) := by
  induction l with
  | nil => simp
  | cons k l ih =>
    obtain ⟨hk, htail⟩ := List.forall_mem_cons.mp hl
    rw [List.foldr_cons, BitVec.getLsbD_or, ih htail, getLsbD_bit _ hk, List.any_cons, Bool.or_comm]

theorem getLsbD_flagByte (l : List Bool) (i : Nat) {b : Nat} (hb : b < 8) : (flagByte l i).getLsbD b = l.getD (8 * i + b) false := by
  rw [flagByte, getLsbD_foldr_bit (fun k => l[8 * i + k]?.getD false) _ (fun k hk => List.mem_range.mp hk), List.getD_eq_getElem?_getD,
    Bool.eq_iff_iff]
  simp only [List.any_eq_true, List.mem_range, Bool.and_eq_true, decide_eq_true_eq]
  constructor
  · rintro ⟨k, -, hk, rfl⟩
    exact hk
  · exact fun h => ⟨b, hb, h, rfl⟩

/-! ## Which view a byte belongs to (11.4) -/

/-- From 180h on the view is found by the line's range. -/
theorem mirrorByte_high (s : State) {block : Nat} (h : 12 ≤ block) (i : Nat) : mirrorByte s block i =
    if 16 ≤ block ∧ block < 32 then eventByte s.mirror (32 * (block - 16) + i)
    else if 32 ≤ block ∧ block < 48 then trackByte s.track (block - 32) i
    else if 48 ≤ block ∧ block < 56 then frameByte s.frames (8 * (block - 48) + i / 4) (i % 4)
    else if block = 56 then (if i = 0 then BitVec.ofNat 8 s.reprint.length else 0)
    else if block = 57 ∨ block = 58 then reprintByte s.reprint (32 * (block - 57) + i)
    else 0 := by
  obtain ⟨n, rfl⟩ := Nat.exists_eq_add_of_le' h
  rfl

/-- The byte of a position of the event queue (200h). -/
theorem mirrorByte_event (s : State) {p : Nat} (hp : p < 32) (b : Nat) :
    mirrorByte s (16 + p / 2) (16 * (p % 2) + b) = eventByte s.mirror (16 * p + b) := by
  have hoffset : 32 * (16 + p / 2 - 16) + (16 * (p % 2) + b) = 16 * p + b := by omega
  rw [mirrorByte_high s (by omega), if_pos (by omega), hoffset]

/-- A position of the event queue holds a record's bytes, or zeros (R170). -/
theorem eventByte_cases (m : Mirror) {p b : Nat} (hb : b < 16) :
    (m.events[p]?.join = none → eventByte m (16 * p + b) = 0) ∧
    ∀ r, m.events[p]? = some (some r) → eventByte m (16 * p + b) = r.byte b := by
  have hposition : (16 * p + b) / 16 = p := by omega
  have hbyte : (16 * p + b) % 16 = b := by omega
  simp only [eventByte, hposition, hbyte]
  refine ⟨fun h => ?_, fun r h => by simp only [h]⟩
  rcases hevent : m.events[p]? with _ | (_ | r)
  · rfl
  · rfl
  · rw [hevent] at h
    exact absurd h (Option.some_ne_none r)

/-- Entry `j` of the tracking table (400h). -/
theorem mirrorByte_track (s : State) {j : Nat} (hj : j < 16) (i : Nat) : mirrorByte s (32 + j) i = trackByte s.track j i := by
  rw [mirrorByte_high s (by omega), if_neg (by omega), if_pos (by omega), Nat.add_sub_cancel_left]

/-- Entry `n` of the frame table (600h). -/
theorem mirrorByte_frame (s : State) {n b : Nat} (hn : n < 64) (hb : b < 4) :
    mirrorByte s (48 + n / 8) (4 * (n % 8) + b) = frameByte s.frames n b := by
  rw [mirrorByte_high s (by omega), if_neg (by omega), if_neg (by omega), if_pos (by omega)]
  have hentry : 8 * (48 + n / 8 - 48) + (4 * (n % 8) + b) / 4 = n := by omega
  have hbyte : (4 * (n % 8) + b) % 4 = b := by omega
  rw [hentry, hbyte]

/-- The byte of an entry of the reprint list (720h). -/
theorem mirrorByte_reprint (s : State) {k : Nat} (hk : k < 16) (i : Nat) :
    mirrorByte s (57 + k / 8) (4 * (k % 8) + i) = reprintByte s.reprint (4 * k + i) := by
  have hoffset : 32 * (57 + k / 8 - 57) + (4 * (k % 8) + i) = 4 * k + i := by omega
  rw [mirrorByte_high s (by omega), if_neg (by omega), if_neg (by omega), if_neg (by omega), if_neg (by omega), if_pos (by omega), hoffset]

/-- The lines of no view read 0 (R177). -/
theorem mirrorByte_unused (s : State) {k : Nat} (h : 12 ≤ k ∧ k < 16 ∨ 59 ≤ k) (i : Nat) : mirrorByte s k i = 0 := by
  rw [mirrorByte_high s (by omega), if_neg (by omega), if_neg (by omega), if_neg (by omega), if_neg (by omega), if_neg (by omega)]

/-! ## The views of single lines -/

/-- Identity: the part code and the revision (000h). -/
theorem identity_view : identityByte 0 = 0x10 ∧ identityByte 1 = 0x34 ∧ identityByte 2 = 1 ∧ ∀ i, 3 ≤ i → identityByte i = 0 := by
  refine ⟨rfl, rfl, rfl, fun i hi => ?_⟩
  simp (disch := omega) only [identityByte, if_neg]

/-- Without a jam record its bytes read 0 (020h). -/
theorem pathByte_unjammed {q : Sequencer} (h : q.jam = none) {i : Nat} (hi : 1 ≤ i) : pathByte q i = 0 := by
  simp (disch := omega) only [pathByte, if_neg, h]

/-- The bytes of the jam record (020h, R103). -/
theorem pathByte_jammed {q : Sequencer} {j : JamRecord} (h : q.jam = some j) :
    pathByte q 1 = j.code.code ∧ pathByte q 2 = stationCode j.station ∧ pathByte q 3 = bit j.seq.isSome 0 ∧
    (∀ i, i < 4 → pathByte q (4 + i) = byteAt (j.seq.getD 0) i) ∧
    (∀ i, i < 3 → pathByte q (8 + i) = byteAt j.stamp i) ∧ ∀ i, 11 ≤ i → pathByte q i = 0 := by
  refine ⟨?_, ?_, ?_, fun i hi => ?_, fun i hi => ?_, fun i hi => ?_⟩
  · simp only [pathByte, h]; rfl
  · simp only [pathByte, h]; rfl
  · simp only [pathByte, h]; rfl
  · simp (disch := omega) only [pathByte, h, if_neg, if_pos, Nat.add_sub_cancel_left]
  · simp (disch := omega) only [pathByte, h, if_neg, if_pos, Nat.add_sub_cancel_left]
  · simp (disch := omega) only [pathByte, h, if_neg]

/-- The standing conditions, eight a byte (040h, R172). -/
theorem conditionByte_bit (s : State) (i : Nat) {b : Nat} (hb : b < 8) :
    (conditionByte s i).getLsbD b = s.conditions.bits.getD (8 * i + b) false := by
  by_cases hi : i < 4
  · rw [conditionByte, if_pos hi, getLsbD_flagByte _ _ hb]
  · have hbeyond : s.conditions.bits[8 * i + b]? = none := by
      rw [State.conditions_bits, List.getElem?_eq_none]
      simp only [List.length_cons, List.length_nil]
      omega
    rw [conditionByte, if_neg hi, List.getD_eq_getElem?_getD, hbeyond]
    exact BitVec.getLsbD_zero

/-- The sequence counters (060h, R67, R142). -/
theorem counterByte_view (s : State) :
    (∀ i, i < 4 → counterByte s i = byteAt s.orders.ePost i ∧ counterByte s (4 + i) = byteAt s.track.dGate i ∧
      counterByte s (8 + i) = byteAt s.track.dDel i) ∧
    counterByte s 12 = bit s.latch.recordValid 0 ∧ ∀ i, 13 ≤ i → counterByte s i = 0 := by
  refine ⟨fun i hi => ⟨?_, ?_, ?_⟩, rfl, fun i hi => ?_⟩
  · simp (disch := omega) only [counterByte, if_pos]
  · simp (disch := omega) only [counterByte, if_neg, if_pos, Nat.add_sub_cancel_left]
  · simp (disch := omega) only [counterByte, if_neg, if_pos, Nat.add_sub_cancel_left]
  · simp (disch := omega) only [counterByte, if_neg]

/-- The free-frame count and the pace state (080h, R49). -/
theorem paceByte_view (f : Frames) :
    paceByte f 0 = BitVec.ofNat 8 f.free ∧ paceByte f 1 = bit f.hold 0 ∧ ∀ i, 2 ≤ i → paceByte f i = 0 := by
  refine ⟨rfl, rfl, fun i hi => ?_⟩
  simp (disch := omega) only [paceByte, if_neg]

/-- The pending depth and the head's sequence (0A0h, R67). -/
theorem pendingByte_view (o : Orders) :
    pendingByte o 0 = BitVec.ofNat 8 o.queue.length ∧
    (o.queue = [] → ∀ i, 1 ≤ i → pendingByte o i = 0) ∧
    (∀ k rest, o.queue = k :: rest → ∀ i, i < 4 → pendingByte o (4 + i) = byteAt (orderOfLine (o.slot k).latched).seq i) ∧
    ∀ i, 1 ≤ i → i < 4 ∨ 8 ≤ i → pendingByte o i = 0 := by
  refine ⟨rfl, fun hqueue i hi => ?_, fun k rest hqueue i hi => ?_, fun i hi hgap => ?_⟩
  · rw [pendingByte, if_neg (by omega), hqueue]
    exact ite_self 0
  · simp (disch := omega) only [pendingByte, hqueue, if_neg, if_pos, Nat.add_sub_cancel_left]
    rfl
  · simp (disch := omega) only [pendingByte, if_neg]

/-- The filtered levels of the sensors (0C0h, R86). -/
theorem sensorByte_view (c : Clock) :
    (∀ sn : Sensor, sensorByte c sn.idx = bit (c.filters[sn.idx]).level 0) ∧ ∀ i, 6 ≤ i → sensorByte c i = 0 := by
  refine ⟨fun sn => ?_, fun i hi => ?_⟩
  · have hfilter : c.filters[(sn.idx : Nat)]? = some c.filters[sn.idx] := by simp
    simp only [sensorByte, hfilter]
  · have hfilter : c.filters[i]? = none := by simp [hi]
    simp only [sensorByte, hfilter]

/-- The event queue's head and count (160h). -/
theorem eventControlByte_view (m : Mirror) :
    eventControlByte m 0 = BitVec.ofNat 8 m.head ∧ eventControlByte m 1 = BitVec.ofNat 8 m.count ∧
    ∀ i, 2 ≤ i → eventControlByte m i = 0 := by
  refine ⟨rfl, rfl, fun i hi => ?_⟩
  simp (disch := omega) only [eventControlByte, if_neg]

/-! ## The views of records -/

/-- The fields of an event record (11.4, R171). -/
theorem EventRecord.byte_view (r : EventRecord) :
    [r.byte 0, r.byte 1, r.byte 2, r.byte 3] =
      [r.event.fields.kind, r.event.fields.reason, r.event.fields.station, r.event.fields.detail] ∧
    (∀ i, i < 4 → r.byte (4 + i) = byteAt r.event.fields.subject i) ∧
    (∀ b, 8 ≤ b → b < 11 → r.byte b = byteAt r.stamp (b - 8)) ∧
    r.byte 11 = r.event.fields.extra ∧ ∀ b, 12 ≤ b → r.byte b = 0 := by
  refine ⟨rfl, fun i hi => ?_, fun b hb hb' => ?_, rfl, fun b hb => ?_⟩
  · simp (disch := omega) only [EventRecord.byte, if_neg, if_pos, Nat.add_sub_cancel_left]
  · simp (disch := omega) only [EventRecord.byte, if_neg, if_pos]
  · simp (disch := omega) only [EventRecord.byte, if_neg]

/-- The head bytes, the subject and the extra byte of an event (R171). -/
def Event.parts (e : Event) : List Byte × BitVec 32 × Byte :=
  ([e.fields.kind, e.fields.reason, e.fields.station, e.fields.detail], e.fields.subject, e.fields.extra)

/-- The bytes of an event record in terms of the event's parts. -/
theorem EventRecord.byte_parts {r : EventRecord} {head : List Byte} {subject : BitVec 32} {extra : Byte}
    (h : (head, subject, extra) = r.event.parts) :
    [r.byte 0, r.byte 1, r.byte 2, r.byte 3] = head ∧ (∀ i, i < 4 → r.byte (4 + i) = byteAt subject i) ∧ r.byte 11 = extra := by
  obtain ⟨rfl, hrest⟩ := Prod.mk.inj h
  obtain ⟨rfl, rfl⟩ := Prod.mk.inj hrest
  obtain ⟨hhead, hsubject, -, hextra, -⟩ := r.byte_view
  exact ⟨hhead, hsubject, hextra⟩

/-- The flags byte of a record (11.4, R146). -/
theorem Record.flags_view (r : Record) :
    (r.byte 8).getLsbD 0 = r.copy.order.lastOfSet ∧ (r.byte 8).getLsbD 1 = decide (r.phase = .decided .purge) ∧
    (r.byte 8).getLsbD 2 = r.backSlot.isSome ∧ (r.byte 8).getLsbD 3 = r.leadStamp.isSome ∧
    ∀ b, 4 ≤ b → (r.byte 8).getLsbD b = false := by
  have hflags (b : Nat) : (r.byte 8).getLsbD b =
      (r.copy.order.lastOfSet && decide (b = 0) || r.diverted && decide (b = 1) || r.backSlot.isSome && decide (b = 2) ||
        r.leadStamp.isSome && decide (b = 3)) := by
    change (bit _ 0 ||| bit _ 1 ||| bit _ 2 ||| bit _ 3 : Byte).getLsbD b = _
    simp only [BitVec.getLsbD_or, getLsbD_bit _ (by decide : 0 < 8), getLsbD_bit _ (by decide : 1 < 8),
      getLsbD_bit _ (by decide : 2 < 8), getLsbD_bit _ (by decide : 3 < 8)]
  have hdiverted : r.diverted = decide (r.phase = .decided .purge) := rfl
  refine ⟨(hflags 0).trans (by simp), (hflags 1).trans (by simp [hdiverted]), (hflags 2).trans (by simp), (hflags 3).trans (by simp),
    fun b hb => ?_⟩
  have h0 : b ≠ 0 := by omega
  have h1 : b ≠ 1 := by omega
  have h2 : b ≠ 2 := by omega
  have h3 : b ≠ 3 := by omega
  simp [hflags, h0, h1, h2, h3]

/-- The fields of a record that take more than a byte (11.4, R146). -/
theorem Record.words_view (r : Record) :
    (∀ i, i < 4 → r.byte i = byteAt r.copy.order.seq i) ∧
    (∀ i, i < 2 → r.byte (12 + i) = byteAt r.launchPitch i ∧ r.byte (14 + i) = byteAt r.frontSlot i ∧
      r.byte (16 + i) = byteAt (r.backSlot.getD 0) i ∧ r.byte (18 + i) = byteAt r.exitSlot i) ∧
    ∀ i, i < 3 → r.byte (20 + i) = byteAt r.launchCount i ∧ r.byte (24 + i) = byteAt (r.leadStamp.getD 0) i ∧
      (r.measured = none → r.byte (28 + i) = 0xFF) ∧
      ∀ m, r.measured = some m → r.byte (28 + i) = byteAt (BitVec.ofNat 24 m) i := by
  refine ⟨fun i hi => ?_, fun i hi => ⟨?_, ?_, ?_, ?_⟩, fun i hi => ⟨?_, ?_, fun hm => ?_, fun m hm => ?_⟩⟩
  · simp only [Record.byte, if_pos hi]
  all_goals simp (disch := omega) only [Record.byte, if_neg, if_pos, Nat.add_sub_cancel_left]
  · rw [hm]
  · rw [hm]

/-- The byte of the spoil reason (R146). -/
theorem Record.spoiled_view (r : Record) :
    (r.spoiled = none → r.byte 10 = 0) ∧ ∀ w, r.spoiled = some w → r.byte 10 = w.code := by
  refine ⟨fun h => ?_, fun w h => ?_⟩
  · simp only [Record.byte, h]
    rfl
  · simp only [Record.byte, h]
    rfl

/-- The byte of the gate decision (R146). -/
theorem Record.decision_view (r : Record) :
    (∀ d, r.phase = .decided d → r.byte 11 = d.code) ∧ ((∀ d, r.phase ≠ .decided d) → r.byte 11 = 0) := by
  refine ⟨fun d h => ?_, fun h => ?_⟩
  · simp only [Record.byte, h]
    rfl
  · cases hphase : r.phase with
    | feeding =>
      simp only [Record.byte, hphase]
      rfl
    | inPath =>
      simp only [Record.byte, hphase]
      rfl
    | decided d => exact absurd hphase (h d)

/-- An entry of the tracking table, or zeros beyond the last record (400h, R146). -/
theorem trackByte_cases (t : Tracking) (j i : Nat) :
    (t.table.length ≤ j → trackByte t j i = 0) ∧ ∀ r, t.table[j]? = some r → trackByte t j i = r.byte i := by
  refine ⟨fun h => ?_, fun r h => ?_⟩
  · simp only [trackByte, List.getElem?_eq_none h]
  · simp only [trackByte, h]

/-- An entry of the reprint list's view, or zeros beyond the last (720h, R163). -/
theorem reprintByte_cases (l : List OrderCopy) (k : Nat) {i : Nat} (hi : i < 4) :
    (l[k]? = none → reprintByte l (4 * k + i) = 0) ∧
    ∀ c, l[k]? = some c → reprintByte l (4 * k + i) = byteAt c.order.seq i := by
  have hentry : (4 * k + i) / 4 = k := by omega
  have hoffset : (4 * k + i) % 4 = i := by omega
  simp only [reprintByte, hentry, hoffset]
  exact ⟨fun h => by simp only [h], fun c h => by simp only [h]⟩

/-- Where a frame has one entry, the entry is known by its frame (3.6). -/
theorem eq_of_frame_eq {l : List WindowEntry} (hnodup : (l.map WindowEntry.frame).Nodup) {x w : WindowEntry} (hx : x ∈ l) (hw : w ∈ l)
    (hframe : x.frame = w.frame) : x = w := by
  induction l with
  | nil => exact absurd hx List.not_mem_nil
  | cons e es ih =>
    obtain ⟨hnot, hrest⟩ := List.nodup_cons.mp hnodup
    rcases List.mem_cons.mp hx with rfl | hx' <;> rcases List.mem_cons.mp hw with rfl | hw'
    · rfl
    · exact absurd (hframe ▸ List.mem_map_of_mem hw') hnot
    · exact absurd (hframe ▸ List.mem_map_of_mem hx') hnot
    · exact ih hrest hx' hw'

/-- The imaging-open face count of a frame, from the window list (R49). -/
theorem Frames.openCount_cases (f : Frames) (n : Nat) :
    ((∀ w ∈ f.window, w.frame ≠ n) → f.openCount n = 0) ∧
    ((f.window.map WindowEntry.frame).Nodup → ∀ w ∈ f.window, w.frame = n → f.openCount n = w.faces.length) := by
  refine ⟨fun h => ?_, fun hnodup w hw hframe => ?_⟩
  · have hnone : f.window.find? (fun e => e.frame == n) = none := by simpa using h
    simp only [Frames.openCount, hnone]
  · cases hfound : f.window.find? fun e => e.frame == n with
    | none =>
      rw [List.find?_eq_none] at hfound
      exact absurd (by simpa using hframe) (hfound w hw)
    | some x =>
      have hx : x.frame = n := by simpa using List.find?_some hfound
      obtain rfl := eq_of_frame_eq hnodup (List.mem_of_find?_eq_some hfound) hw (hx.trans hframe.symm)
      simp only [Frames.openCount, hfound]

/-- The toggle stands in the lowest bit of a frame's last byte (R49). -/
theorem getLsbD_frameByte (f : Frames) (n : Nat) : (frameByte f n 3).getLsbD 0 = (f.at n).toggle := by
  change (bit (f.at n).toggle 0 ||| (BitVec.ofNat 8 (f.openCount n) <<< 1)).getLsbD 0 = _
  rw [BitVec.getLsbD_or, getLsbD_bit _ (by decide), BitVec.getLsbD_shiftLeft]
  simp

/-- The open-face count stands above the toggle (R49). -/
theorem frameByte_shift {f : Frames} {n : Nat} (h : f.openCount n ≤ 2) :
    frameByte f n 3 >>> 1 = BitVec.ofNat 8 (f.openCount n) := by
  change (bit (f.at n).toggle 0 ||| (BitVec.ofNat 8 (f.openCount n) <<< 1)) >>> 1 = _
  generalize (f.at n).toggle = toggle
  generalize f.openCount n = k at h
  have hk : k = 0 ∨ k = 1 ∨ k = 2 := by omega
  obtain rfl | rfl | rfl := hk <;> cases toggle <;> decide

theorem faces_length_le_sum {l : List WindowEntry} {w : WindowEntry} (hw : w ∈ l) :
    w.faces.length ≤ (l.map fun e => e.faces.length).sum := by
  induction l with
  | nil => exact absurd hw List.not_mem_nil
  | cons e es ih =>
    rw [List.map_cons, List.sum_cons]
    rcases List.mem_cons.mp hw with rfl | hw
    · exact Nat.le_add_right _ _
    · exact Nat.le_trans (ih hw) (Nat.le_add_left _ _)

/-- The faces of a window entry are among the two open ones (R41). -/
theorem faces_length_le {s : State} (h : WindowInv s) {w : WindowEntry} (hw : w ∈ s.frames.window) : w.faces.length ≤ 2 := by
  obtain ⟨hopen, -, -⟩ := h
  exact Nat.le_trans (faces_length_le_sum hw) hopen

/-- A mirror read is answered at once with its view's bytes (R165). -/
theorem exec_busRead_mirror {s : State} {r : ReadReq} {k : Nat} (hhears : s.settle.hears r.master) (hen : r.enables ≠ 0)
    (hregion : s.settle.region r.line = .mirror k) :
    exec (.busRead r) s = .next (s.settle.answerRead r (mirrorByte s.settle k)) := by
  rw [exec_busRead_of_hears hhears]
  simp only [presentRead, if_neg hen, hregion]

/-- Settles O25: each byte is found in its view. -/
theorem mirrorReadAnswered : Obligations.MirrorReadAnswered := by
  refine ⟨fun s u r k hsettle hhears hen hregion => ?_, fun u pathCode jamByte station hpath hjam hstation => ?_⟩
  · subst hsettle
    exact ⟨_, exec_busRead_mirror hhears hen hregion, fun i hi hbyte => byteAt_answerBytes _ _ _ hi hbyte⟩
  obtain rfl : pathCode = PathState.code := by
    rw [hpath]
    funext p
    cases p <;> rfl
  obtain rfl : jamByte = JamCode.code := by
    rw [hjam]
    funext c
    cases c <;> rfl
  obtain rfl : station = stationCode := by
    rw [hstation]
    funext st
    rcases st with _ | sn
    · rfl
    · cases sn <;> rfl
  refine ⟨identity_view, rfl, fun hjam i hi => pathByte_unjammed hjam hi, fun j hj => ?_, fun i b _ hb => conditionByte_bit u i hb,
    (counterByte_view u).1, (counterByte_view u).2.1, (counterByte_view u).2.2, paceByte_view u.frames, pendingByte_view u.orders,
    sensorByte_view u.clock, ⟨?_, fun i hi => if_neg (by omega)⟩, fun i => ⟨rfl, rfl, rfl⟩, eventControlByte_view u.mirror,
    fun p b hp hb at' hat => ?_, fun j i hj hi => ⟨fun hbeyond => ?_, fun r at' hr hat => ?_⟩, fun n at' hn hat => ?_, ?_,
    fun k i hk => mirrorByte_unused u hk i⟩
  · obtain ⟨hcode, hstation, hhas, hseq, hstamp, hrest⟩ := pathByte_jammed hj
    refine ⟨hcode, hstation, hhas.trans ?_, hseq, hstamp, hrest⟩
    cases j.seq <;> rfl
  · exact (if_pos rfl : causeByte u.latch 0 = _)
  · subst hat
    have hview (i : Nat) : mirrorByte u (16 + p / 2) (16 * (p % 2) + i) = eventByte u.mirror (16 * p + i) := mirrorByte_event u hp i
    refine ⟨fun hfree => (hview b).trans ((eventByte_cases u.mirror hb).1 hfree), fun e stamp he => ?_⟩
    have hbytes {i : Nat} (hi : i < 16) : mirrorByte u (16 + p / 2) (16 * (p % 2) + i) = EventRecord.byte ⟨e, stamp⟩ i :=
      (hview i).trans ((eventByte_cases u.mirror hi).2 _ he)
    obtain ⟨-, -, hstamp, -, hunused⟩ := EventRecord.byte_view ⟨e, stamp⟩
    refine ⟨fun h8 h11 => (hbytes hb).trans (hstamp b h8 h11), fun h12 => (hbytes hb).trans (hunused b h12),
      fun head subject extra hparts => ?_⟩
    have heq : (head, subject, extra) = e.parts := by
      cases e with
      | orderRefused reason k => cases reason <;> exact hparts
      | sheetDelivered q k c => cases k <;> exact hparts
      | sheetDiverted q reason =>
        cases reason with
        | spoiled w => cases w <;> exact hparts
        | outOfSequence => exact hparts
      | misfeed q tray n => exact hparts
      | trayStalled tray q => exact hparts
      | jam c st q => cases q <;> exact hparts
      | frameReleased n g => exact hparts
      | guardAbort target m => cases target <;> exact hparts
      | fetchBlanked n => exact hparts
      | rangeFault m l => exact hparts
      | memoryFault m l => exact hparts
      | requestRefused c path => exact hparts
      | resumeRefused st => exact hparts
      | standbyDeclined => exact hparts
      | stateChange path => exact hparts
    obtain ⟨hhead, hsubject, hextra⟩ := EventRecord.byte_parts (r := ⟨e, stamp⟩) heq
    refine ⟨?_, fun i hi => (hbytes (by omega)).trans (hsubject i hi), (hbytes (by omega)).trans hextra⟩
    rw [← hhead]
    dsimp only
    rw [hbytes (by omega), hbytes (by omega), hbytes (by omega), hbytes (by omega)]
  · rw [mirrorByte_track u hj]
    exact (trackByte_cases u.track j i).1 hbeyond
  · obtain rfl : at' = r.byte := by
      rw [hat]
      funext b
      exact (mirrorByte_track u hj b).trans ((trackByte_cases u.track j b).2 r hr)
    obtain ⟨hseq, htwo, hthree⟩ := r.words_view
    obtain ⟨hlast, hpurged, hback, hlead, hzero⟩ := r.flags_view
    refine ⟨hseq i, ?_, rfl, ?_, ?_, hlast, hpurged, hback, hlead, hzero, rfl, ?_, ?_, htwo i, fun hi => ?_, rfl, rfl, rfl⟩
    · change r.phase.code = _
      cases r.phase <;> rfl
    · change Stack.code r.copy.order.dest = _
      cases r.copy.order.dest <;> rfl
    · change r.copy.order.sides.code = _
      cases r.copy.order.sides <;> rfl
    · obtain ⟨hgood, hspoiled⟩ := r.spoiled_view
      cases hw : r.spoiled with
      | none => exact hgood hw
      | some w =>
        rw [hspoiled w hw]
        cases w <;> rfl
    · obtain ⟨hdecided, hundecided⟩ := r.decision_view
      cases hphase : r.phase with
      | feeding => exact hundecided fun d hd => by simp [hphase] at hd
      | inPath => exact hundecided fun d hd => by simp [hphase] at hd
      | decided d =>
        rw [hdecided d hphase]
        rcases d with (_ | _) | _ <;> rfl
    · obtain ⟨hlaunch, hleadStamp, hunmeasured, hmeasured⟩ := hthree i hi
      refine ⟨hlaunch, hleadStamp, ?_⟩
      cases hm : r.measured with
      | none => exact hunmeasured hm
      | some m => exact hmeasured m hm
  · subst hat
    have hbyte {b : Nat} (hb : b < 4) := mirrorByte_frame u hn hb
    have hcount := u.frames.openCount_cases n
    refine ⟨(hbyte (by decide)).trans ?_, hbyte (by decide), hbyte (by decide), ?_, fun hclear => ?_, fun hwindow w hw hframe => ?_⟩
    · change (u.frames.at n).state.code = _
      cases (u.frames.at n).state <;> rfl
    · dsimp only
      rw [hbyte (by decide)]
      exact getLsbD_frameByte u.frames n
    · dsimp only
      rw [hbyte (by decide), frameByte_shift (by rw [hcount.1 hclear]; decide), hcount.1 hclear]
      rfl
    · have hfaces := hcount.2 hwindow.2.1 w hw hframe
      dsimp only
      rw [hbyte (by decide), frameByte_shift (by rw [hfaces]; exact faces_length_le hwindow hw), hfaces]
  · refine ⟨?_, fun i hi => ?_, fun k i hk hi => ?_⟩
    · rw [mirrorByte_high u (by decide)]
      rfl
    · rw [mirrorByte_high u (by decide)]
      simp (disch := omega) only [if_neg, if_true]
    · obtain ⟨hbeyond, hlisted⟩ := reprintByte_cases u.reprint k hi
      rw [mirrorByte_reprint u hk]
      cases hc : u.reprint[k]? with
      | none => exact hbeyond hc
      | some c => exact hlisted c hc

end Sys2Proof.Machine
